-- ==== Sys2Proof/Word.lean ====
section
/-! DEFINITION. The word widths of the block: register bytes (R17), command words (R60), response words and their
payloads (R66). -/

namespace Sys2Proof

/-- A register byte, a register address, or one byte field of a command word. -/
abbrev Byte := BitVec 8

/-- The 24-bit command word `{op, a, b}` of R60. -/
abbrev CmdWord := BitVec 24

/-- The 36-bit payload of a response (R66). -/
abbrev Payload := BitVec 36

/-- The 40-bit response word (R66). -/
abbrev RespWord := BitVec 40

end Sys2Proof
end

