-- ==== Sys2Proof/Config.lean ====
section
/-! DEFINITION. The closed name sets of the spec (chip registers, fields, variants), the parameters of R3 as one plain
record, what the environment can answer, and the free values. The values the spec fixes for the parameters are in
Machine/Params.lean. -/

namespace Sys2Proof

/-- The nineteen chip registers of R20: "a closed enumeration of addressable byte registers". -/
inductive ChipReg
  | firmwareId | firmwareVersion | status1 | sysConfig1 | feedConfig1 | feedConfig2
  | calConfig1 | ps2AuxControl | sampleRate | zIdle | zScaler | sleepInterval | sleepTimer
  | packetByte0 | packetByte1 | packetByte2 | packetByte3 | packetByte4 | packetByte5
  deriving DecidableEq, Repr, Inhabited

/-- The eleven configuration fields of R25. -/
inductive Field
  | power | feed | pos | filter | axisEn | axisInv | axisSwap | scroll | tap | glide | imouse
  deriving DecidableEq, Repr, Inhabited

/-- The names of the variants of the eleven fields (R25), one name each. -/
inductive Variant
  | normal | shutdown | sleep
  | noFeed | enabled
  | relative | absolute
  | filterOn | filterOff
  | bothOn | xOff | yOff | bothOff
  | noInvert | invertX | invertY | invertBoth
  | noSwap | swap
  | scrollOn | scrollOff
  | allTaps | noTaps | noSecondaryTap
  | glideOn | glideOff
  | iMouseOff | iMouseOn
  deriving DecidableEq, Repr, Inhabited

/-- `tag.pos` of R10. -/
inductive PosMode
  | relative | absolute
  deriving DecidableEq, Repr, Inhabited

/-- `tag.feed` of R10. -/
inductive FeedMode
  | noFeed | enabled
  deriving DecidableEq, Repr, Inhabited

/-- One row of `FIELD_TABLE` (R25): where a field lies and the code of each declared variant. -/
structure FieldSpec where
  reg : ChipReg
  mask : Byte
  shift : Nat
  variants : List (Variant × Byte)
  deriving DecidableEq, Repr, Inhabited

/-- `FIELD_TABLE` (R3, R25): one row for each field. -/
structure FieldTable where
  power : FieldSpec
  feed : FieldSpec
  pos : FieldSpec
  filter : FieldSpec
  axisEn : FieldSpec
  axisInv : FieldSpec
  axisSwap : FieldSpec
  scroll : FieldSpec
  tap : FieldSpec
  glide : FieldSpec
  imouse : FieldSpec
  deriving DecidableEq, Repr, Inhabited

/-- The row of a field. -/
def FieldTable.get (ft : FieldTable) : Field → FieldSpec
  | .power => ft.power
  | .feed => ft.feed
  | .pos => ft.pos
  | .filter => ft.filter
  | .axisEn => ft.axisEn
  | .axisInv => ft.axisInv
  | .axisSwap => ft.axisSwap
  | .scroll => ft.scroll
  | .tap => ft.tap
  | .glide => ft.glide
  | .imouse => ft.imouse

/-- The declared codes of a field, in the table's order. -/
def FieldSpec.codes (sp : FieldSpec) : List Byte := sp.variants.map (·.2)

/-- The strap that selects `DEV_ADDR` (R3, R41): exactly two addresses. -/
inductive Strap
  | primary | secondary
  deriving DecidableEq, Repr, Inhabited

/-- `FRAMING` (R3, R42). -/
inductive Framing
  | marked | raw
  deriving DecidableEq, Repr, Inhabited

/-- `REL_REGS` (R3, R27). -/
structure RelRegs where
  b0 : ChipReg
  b1 : ChipReg
  b2 : ChipReg
  deriving DecidableEq, Repr, Inhabited

/-- `ABS_REGS` (R3, R28), in the order ABSDATA reads them. -/
structure AbsRegs where
  button : ChipReg
  xLow : ChipReg
  yLow : ChipReg
  highNibbles : ChipReg
  zLevel : ChipReg
  deriving DecidableEq, Repr, Inhabited

/-- The implementation parameters of R3, "A model takes each as a configuration field". They are fixed at integration:
no step changes them. -/
structure Params where
  strap : Strap
  hasReadyPin : Bool
  framing : Framing
  /-- the registers `READ_ONLY` is true of -/
  readOnly : List ChipReg
  fields : FieldTable
  drMask : Byte
  relRegs : RelRegs
  absRegs : AbsRegs
  clampEnable : Bool
  xLower : BitVec 12
  xUpper : BitVec 12
  yLower : BitVec 12
  yUpper : BitVec 12
  deriving DecidableEq, Repr, Inhabited

/-- The fields in the order of their ids (R64). -/
def allFields : List Field :=
  [.power, .feed, .pos, .filter, .axisEn, .axisInv, .axisSwap, .scroll, .tap, .glide, .imouse]

/-- R23 for one row: two to four variants (R24), codes pairwise distinct, and every code, shifted into place, inside the
mask with no bit lost (DEDUCED, log entry 15). -/
def FieldSpec.wf (sp : FieldSpec) : Bool :=
  (2 ≤ sp.variants.length && sp.variants.length ≤ 4) &&
  decide (sp.codes.Nodup) && decide ((sp.variants.map (·.1)).Nodup) &&
  sp.codes.all fun c => ((c <<< sp.shift) &&& ~~~sp.mask == 0) && ((c <<< sp.shift) >>> sp.shift == c)

/-- R23 for the table: every row is well formed, and two fields of one register have masks that do not overlap. -/
def FieldTable.wf (ft : FieldTable) : Bool :=
  allFields.all fun f => (ft.get f).wf &&
    allFields.all fun g => f == g || (ft.get f).reg != (ft.get g).reg || (ft.get f).mask &&& (ft.get g).mask == 0

/-- What R3 and R23 require of the parameters: the table's two invariants, and `LOWER <= UPPER` on both axes. -/
def Params.wf (p : Params) : Bool :=
  p.fields.wf && decide (p.xLower ≤ p.xUpper) && decide (p.yLower ≤ p.yUpper)

/-- What one sample of the ready line returns (R160). -/
inductive PinLevel
  | high | low | fault
  deriving DecidableEq, Repr, Inhabited

/-- What the transport answers to one transaction (R40). `ok b` is the `Ok` of `BusWriteRead` with the byte it read; a
`BusWrite` takes the `ok` and ignores the byte (log entry 10). `stall` and `later` are no answer yet (R7, R9): with `stall`
the transaction is under way when the step ends; with `later` the step ends before a transaction that is not yet on the bus
is put there, and one that is stays under way (log entry 5). -/
inductive BusAnswer
  | ok (b : Byte)
  | err
  | stall
  | later
  deriving DecidableEq, Repr, Inhabited

/-- FREE VALUE (R8, U12, log entry 4): the transport's answer to the n-th transaction that no script answers. -/
opaque Config.freeBus : Nat → BusAnswer

/-- FREE VALUE (R160, log entry 4): the ready line's level at the n-th sample that no script answers. -/
opaque Config.freePin : Nat → PinLevel

/-- FREE VALUE (R221, V6, log entry 3): what `tmp` holds after a reset of the block during a run. -/
opaque Config.freeTmp : Nat → Byte

/-- OPEN PARAMETER (R3, D21): the strap; "no default, chosen by the integrator" (log entry 6). -/
opaque Config.strap : Strap

/-- OPEN PARAMETER (R3): whether a ready line is wired; "open (integrator)" (log entry 6). -/
opaque Config.hasReadyPin : Bool

/-- OPEN PARAMETER (R3, D13): two numbers between which X is clamped; the smaller is `X_LOWER` (log entry 6). -/
opaque Config.xBoundA : BitVec 12
opaque Config.xBoundB : BitVec 12

/-- OPEN PARAMETER (R3, D13): two numbers between which Y is clamped; the smaller is `Y_LOWER` (log entry 6). -/
opaque Config.yBoundA : BitVec 12
opaque Config.yBoundB : BitVec 12

end Sys2Proof
end

