-- ==== Sys2Proof/Machine/Params.lean ====
section
/-! DEFINITION. The values the spec fixes for the parameters of R3: the field table of R25, and the parameters of the
integrated block. What the spec leaves to the integrator is a constant of Config without a body. -/

namespace Sys2Proof.Machine

/-- R25, every number of the table. -/
def fieldTable : FieldTable where
  power := ⟨.sysConfig1, 0x06, 1, [(.normal, 0), (.shutdown, 1), (.sleep, 2)]⟩
  feed := ⟨.feedConfig1, 0x01, 0, [(.noFeed, 0), (.enabled, 1)]⟩
  pos := ⟨.feedConfig1, 0x02, 1, [(.relative, 0), (.absolute, 1)]⟩
  filter := ⟨.feedConfig1, 0x04, 2, [(.filterOn, 0), (.filterOff, 1)]⟩
  axisEn := ⟨.feedConfig1, 0x18, 3, [(.bothOn, 0), (.xOff, 1), (.yOff, 2), (.bothOff, 3)]⟩
  axisInv := ⟨.feedConfig1, 0xC0, 6, [(.noInvert, 0), (.invertX, 1), (.invertY, 2), (.invertBoth, 3)]⟩
  axisSwap := ⟨.feedConfig2, 0x80, 7, [(.noSwap, 0), (.swap, 1)]⟩
  scroll := ⟨.feedConfig2, 0x08, 3, [(.scrollOn, 0), (.scrollOff, 1)]⟩
  tap := ⟨.feedConfig2, 0x06, 1, [(.allTaps, 0), (.noTaps, 1), (.noSecondaryTap, 2)]⟩
  glide := ⟨.feedConfig2, 0x10, 4, [(.glideOn, 0), (.glideOff, 1)]⟩
  imouse := ⟨.feedConfig2, 0x01, 0, [(.iMouseOff, 0), (.iMouseOn, 1)]⟩

/-- `READ_ONLY` (R20): "true exactly for a ∈ {0x00, 0x01}". -/
def readOnlyRegs : List ChipReg := [.firmwareId, .firmwareVersion]

/-- The parameter table of R3 at the values it fixes, given what it leaves to the integrator. -/
def params (strap : Strap) (hasReadyPin : Bool) (xLo xHi yLo yHi : BitVec 12) : Params where
  strap := strap
  hasReadyPin := hasReadyPin
  framing := .marked
  readOnly := readOnlyRegs
  fields := fieldTable
  drMask := 0x04
  relRegs := ⟨.packetByte0, .packetByte1, .packetByte2⟩
  absRegs := ⟨.packetByte0, .packetByte2, .packetByte3, .packetByte4, .packetByte5⟩
  clampEnable := false
  xLower := xLo
  xUpper := xHi
  yLower := yLo
  yUpper := yHi

/-- The smaller of two bounds, so that `LOWER <= UPPER` (R3) whatever the integrator chose. -/
def lowerBound (a b : BitVec 12) : BitVec 12 := if a ≤ b then a else b

/-- The larger of two bounds. -/
def upperBound (a b : BitVec 12) : BitVec 12 := if a ≤ b then b else a

/-- The parameters of the integrated block: R3's fixed values, with the open ones free. -/
def integratedParams : Params :=
  params Config.strap Config.hasReadyPin
    (lowerBound Config.xBoundA Config.xBoundB) (upperBound Config.xBoundA Config.xBoundB)
    (lowerBound Config.yBoundA Config.yBoundB) (upperBound Config.yBoundA Config.yBoundB)

end Sys2Proof.Machine
end

