-- ==== Sys2Proof/Syntax.lean ====
section
/-! DEFINITION. The thirty-one commands, one constructor for each row of spec/opcode_table.json (R62, R72). A register
operand is the register itself (R63 admits the nineteen and no other); the operand of a SET is the variant's code, as it
travels in the command word (R65). -/

namespace Sys2Proof

inductive Instr
  /-- R141 -/
  | init
  /-- R82 -/
  | rd (r : ChipReg)
  /-- R83 -/
  | wr (r : ChipReg) (b : Byte)
  /-- R104 -/
  | getPower
  /-- R105 -/
  | getFeed
  /-- R106 -/
  | getPos
  /-- R107 -/
  | getFilter
  /-- R108 -/
  | getAxisEn
  /-- R109 -/
  | getAxisInv
  /-- R110 -/
  | getAxisSwap
  /-- R111 -/
  | getScroll
  /-- R112 -/
  | getTap
  /-- R113 -/
  | getGlide
  /-- R114 -/
  | getImouse
  /-- R116 -/
  | setPower (c : Byte)
  /-- R117 -/
  | setFilter (c : Byte)
  /-- R118 -/
  | setAxisEn (c : Byte)
  /-- R119 -/
  | setAxisInv (c : Byte)
  /-- R120 -/
  | setAxisSwap (c : Byte)
  /-- R121 -/
  | setScroll (c : Byte)
  /-- R122 -/
  | setTap (c : Byte)
  /-- R123 -/
  | setGlide (c : Byte)
  /-- R124 -/
  | setImouse (c : Byte)
  /-- R84 -/
  | clrst
  /-- R142 -/
  | enable
  /-- R143 -/
  | disable
  /-- R144 -/
  | toabs
  /-- R145 -/
  | torel
  /-- R170 -/
  | reldata
  /-- R171 -/
  | absdata
  /-- R85 -/
  | devid
  deriving DecidableEq, Repr, Inhabited

end Sys2Proof
end

