-- ==== Sys2Proof/WellFormed.lean ====
section
/-! DEFINITION. Which instructions a command word can hold: the code of a SET is a declared code of its field (R65).
Every other operand is legal by its type (R63, R64). -/

namespace Sys2Proof

/-- `c` is a declared code of the field `f` (R65). -/
def FieldTable.declares (ft : FieldTable) (f : Field) (c : Byte) : Bool :=
  (ft.get f).codes.contains c

/-- The instruction has a command word under the field table `ft` (R69). -/
def Instr.wf (ft : FieldTable) : Instr → Bool
  | .setPower c => ft.declares .power c
  | .setFilter c => ft.declares .filter c
  | .setAxisEn c => ft.declares .axisEn c
  | .setAxisInv c => ft.declares .axisInv c
  | .setAxisSwap c => ft.declares .axisSwap c
  | .setScroll c => ft.declares .scroll c
  | .setTap c => ft.declares .tap c
  | .setGlide c => ft.declares .glide c
  | .setImouse c => ft.declares .imouse c
  | .init => true
  | .rd _ => true
  | .wr _ _ => true
  | .getPower => true
  | .getFeed => true
  | .getPos => true
  | .getFilter => true
  | .getAxisEn => true
  | .getAxisInv => true
  | .getAxisSwap => true
  | .getScroll => true
  | .getTap => true
  | .getGlide => true
  | .getImouse => true
  | .clrst => true
  | .enable => true
  | .disable => true
  | .toabs => true
  | .torel => true
  | .reldata => true
  | .absdata => true
  | .devid => true

end Sys2Proof
end

