-- ==== Sys2Proof/Decode.lean ====
section
/-! DEFINITION. The command word and its decoder (R60 to R70), total on every word and rejecting by name, and the encoder
written from the same tables. `decodeWith` takes the field table it reads the declared codes from (R65); `decode` is
`decodeWith` at the table of R25. -/

namespace Sys2Proof

/-- The address of a chip register (R20), unframed (R63). -/
def ChipReg.addr : ChipReg → Byte
  | .firmwareId => 0x00
  | .firmwareVersion => 0x01
  | .status1 => 0x02
  | .sysConfig1 => 0x03
  | .feedConfig1 => 0x04
  | .feedConfig2 => 0x05
  | .calConfig1 => 0x07
  | .ps2AuxControl => 0x08
  | .sampleRate => 0x09
  | .zIdle => 0x0A
  | .zScaler => 0x0B
  | .sleepInterval => 0x0C
  | .sleepTimer => 0x0D
  | .packetByte0 => 0x12
  | .packetByte1 => 0x13
  | .packetByte2 => 0x14
  | .packetByte3 => 0x15
  | .packetByte4 => 0x16
  | .packetByte5 => 0x17

/-- The register at an address; none outside the map (R21). -/
def regOfAddr (a : Byte) : Option ChipReg :=
  match a.toNat with
  | 0x00 => some .firmwareId
  | 0x01 => some .firmwareVersion
  | 0x02 => some .status1
  | 0x03 => some .sysConfig1
  | 0x04 => some .feedConfig1
  | 0x05 => some .feedConfig2
  | 0x07 => some .calConfig1
  | 0x08 => some .ps2AuxControl
  | 0x09 => some .sampleRate
  | 0x0A => some .zIdle
  | 0x0B => some .zScaler
  | 0x0C => some .sleepInterval
  | 0x0D => some .sleepTimer
  | 0x12 => some .packetByte0
  | 0x13 => some .packetByte1
  | 0x14 => some .packetByte2
  | 0x15 => some .packetByte3
  | 0x16 => some .packetByte4
  | 0x17 => some .packetByte5
  | _ => none

/-- The field id of R64. -/
def Field.id : Field → Byte
  | .power => 0
  | .feed => 1
  | .pos => 2
  | .filter => 3
  | .axisEn => 4
  | .axisInv => 5
  | .axisSwap => 6
  | .scroll => 7
  | .tap => 8
  | .glide => 9
  | .imouse => 10

/-- Why a word, or a sequence of bytes, is no command (R70). -/
inductive DecodeError
  /-- `op` is not in the opcode map (R62). -/
  | reservedOpcode (op : Byte)
  /-- An unused operand byte is not zero (R69). -/
  | strayOperand
  /-- RD or WR with an address outside the map (R63). -/
  | unmappedRegister (a : Byte)
  /-- GET with `a > 10`, or SET with `a ∈ {1, 2}` or `a > 10` (R64). -/
  | reservedField (a : Byte)
  /-- SET with a `b` that is no declared code of the field (R65). -/
  | undeclaredCode (f : Field) (c : Byte)
  /-- Not the three bytes of a command on a byte-wide port (R60). -/
  | notThreeBytes
  deriving DecidableEq, Repr

/-- The three byte fields of R60. -/
def opByte (w : CmdWord) : Byte := w.extractLsb' 16 8
def aByte (w : CmdWord) : Byte := w.extractLsb' 8 8
def bByte (w : CmdWord) : Byte := w.extractLsb' 0 8

/-- The word `{op, a, b}` (R60). -/
def wordOf (op a b : Byte) : CmdWord := (op ++ a) ++ b

/-- Format N (R61): both operand bytes are unused. -/
def decodeN (i : Instr) (a b : Byte) : Except DecodeError Instr :=
  if a = 0 ∧ b = 0 then .ok i else .error .strayOperand

/-- The register operand of formats R and W (R63). -/
def decodeReg (a : Byte) (k : ChipReg → Instr) : Except DecodeError Instr :=
  match regOfAddr a with
  | some r => .ok (k r)
  | none => .error (.unmappedRegister a)

/-- The field operand of format F (R64). -/
def decodeGet (a : Byte) : Except DecodeError Instr :=
  match a.toNat with
  | 0 => .ok .getPower
  | 1 => .ok .getFeed
  | 2 => .ok .getPos
  | 3 => .ok .getFilter
  | 4 => .ok .getAxisEn
  | 5 => .ok .getAxisInv
  | 6 => .ok .getAxisSwap
  | 7 => .ok .getScroll
  | 8 => .ok .getTap
  | 9 => .ok .getGlide
  | 10 => .ok .getImouse
  | _ => .error (.reservedField a)

/-- The variant operand of format V (R65). -/
def decodeCode (ft : FieldTable) (f : Field) (c : Byte) (i : Instr) : Except DecodeError Instr :=
  if ft.declares f c then .ok i else .error (.undeclaredCode f c)

/-- The field operand of format V: no SET.FEED, no SET.POS (R64). -/
def decodeSet (ft : FieldTable) (a c : Byte) : Except DecodeError Instr :=
  match a.toNat with
  | 0 => decodeCode ft .power c (.setPower c)
  | 3 => decodeCode ft .filter c (.setFilter c)
  | 4 => decodeCode ft .axisEn c (.setAxisEn c)
  | 5 => decodeCode ft .axisInv c (.setAxisInv c)
  | 6 => decodeCode ft .axisSwap c (.setAxisSwap c)
  | 7 => decodeCode ft .scroll c (.setScroll c)
  | 8 => decodeCode ft .tap c (.setTap c)
  | 9 => decodeCode ft .glide c (.setGlide c)
  | 10 => decodeCode ft .imouse c (.setImouse c)
  | _ => .error (.reservedField a)

/-- The opcode map of R62 over the three byte fields. -/
def decodeFields (ft : FieldTable) (op a b : Byte) : Except DecodeError Instr :=
  match op.toNat with
  | 0x01 => decodeN .init a b
  | 0x02 => if b = 0 then decodeReg a .rd else .error .strayOperand
  | 0x03 => decodeReg a fun r => .wr r b
  | 0x04 => if b = 0 then decodeGet a else .error .strayOperand
  | 0x05 => decodeSet ft a b
  | 0x06 => decodeN .clrst a b
  | 0x07 => decodeN .enable a b
  | 0x08 => decodeN .disable a b
  | 0x09 => decodeN .toabs a b
  | 0x0A => decodeN .torel a b
  | 0x0B => decodeN .reldata a b
  | 0x0C => decodeN .absdata a b
  | 0x0D => decodeN .devid a b
  | _ => .error (.reservedOpcode op)

/-- The strict decoder of R69 under a field table. -/
def decodeWith (ft : FieldTable) (w : CmdWord) : Except DecodeError Instr :=
  decodeFields ft (opByte w) (aByte w) (bByte w)

/-- The decoder at the field table of R25. -/
def decode (w : CmdWord) : Except DecodeError Instr := decodeWith Machine.fieldTable w

/-- A byte-wide command port: `op` first, then `a`, then `b` (R60). -/
def decodeBytes (ft : FieldTable) : List Byte → Except DecodeError Instr
  | [op, a, b] => decodeWith ft (wordOf op a b)
  | _ => .error .notThreeBytes

/-- The command word of an instruction (R60 to R65). -/
def encode : Instr → CmdWord
  | .init => wordOf 0x01 0 0
  | .rd r => wordOf 0x02 r.addr 0
  | .wr r b => wordOf 0x03 r.addr b
  | .getPower => wordOf 0x04 (Field.id .power) 0
  | .getFeed => wordOf 0x04 (Field.id .feed) 0
  | .getPos => wordOf 0x04 (Field.id .pos) 0
  | .getFilter => wordOf 0x04 (Field.id .filter) 0
  | .getAxisEn => wordOf 0x04 (Field.id .axisEn) 0
  | .getAxisInv => wordOf 0x04 (Field.id .axisInv) 0
  | .getAxisSwap => wordOf 0x04 (Field.id .axisSwap) 0
  | .getScroll => wordOf 0x04 (Field.id .scroll) 0
  | .getTap => wordOf 0x04 (Field.id .tap) 0
  | .getGlide => wordOf 0x04 (Field.id .glide) 0
  | .getImouse => wordOf 0x04 (Field.id .imouse) 0
  | .setPower c => wordOf 0x05 (Field.id .power) c
  | .setFilter c => wordOf 0x05 (Field.id .filter) c
  | .setAxisEn c => wordOf 0x05 (Field.id .axisEn) c
  | .setAxisInv c => wordOf 0x05 (Field.id .axisInv) c
  | .setAxisSwap c => wordOf 0x05 (Field.id .axisSwap) c
  | .setScroll c => wordOf 0x05 (Field.id .scroll) c
  | .setTap c => wordOf 0x05 (Field.id .tap) c
  | .setGlide c => wordOf 0x05 (Field.id .glide) c
  | .setImouse c => wordOf 0x05 (Field.id .imouse) c
  | .clrst => wordOf 0x06 0 0
  | .enable => wordOf 0x07 0 0
  | .disable => wordOf 0x08 0 0
  | .toabs => wordOf 0x09 0 0
  | .torel => wordOf 0x0A 0 0
  | .reldata => wordOf 0x0B 0 0
  | .absdata => wordOf 0x0C 0 0
  | .devid => wordOf 0x0D 0 0

/-- The opcode table's `match` and `mask` of an instruction's row (spec/opcode_table.json, R69). -/
def opcodeRow : Instr → CmdWord × CmdWord
  | .init => (0x010000, 0xFFFFFF)
  | .rd _ => (0x020000, 0xFF00FF)
  | .wr _ _ => (0x030000, 0xFF0000)
  | .getPower => (0x040000, 0xFFFFFF)
  | .getFeed => (0x040100, 0xFFFFFF)
  | .getPos => (0x040200, 0xFFFFFF)
  | .getFilter => (0x040300, 0xFFFFFF)
  | .getAxisEn => (0x040400, 0xFFFFFF)
  | .getAxisInv => (0x040500, 0xFFFFFF)
  | .getAxisSwap => (0x040600, 0xFFFFFF)
  | .getScroll => (0x040700, 0xFFFFFF)
  | .getTap => (0x040800, 0xFFFFFF)
  | .getGlide => (0x040900, 0xFFFFFF)
  | .getImouse => (0x040A00, 0xFFFFFF)
  | .setPower _ => (0x050000, 0xFFFF00)
  | .setFilter _ => (0x050300, 0xFFFF00)
  | .setAxisEn _ => (0x050400, 0xFFFF00)
  | .setAxisInv _ => (0x050500, 0xFFFF00)
  | .setAxisSwap _ => (0x050600, 0xFFFF00)
  | .setScroll _ => (0x050700, 0xFFFF00)
  | .setTap _ => (0x050800, 0xFFFF00)
  | .setGlide _ => (0x050900, 0xFFFF00)
  | .setImouse _ => (0x050A00, 0xFFFF00)
  | .clrst => (0x060000, 0xFFFFFF)
  | .enable => (0x070000, 0xFFFFFF)
  | .disable => (0x080000, 0xFFFFFF)
  | .toabs => (0x090000, 0xFFFFFF)
  | .torel => (0x0A0000, 0xFFFFFF)
  | .reldata => (0x0B0000, 0xFFFFFF)
  | .absdata => (0x0C0000, 0xFFFFFF)
  | .devid => (0x0D0000, 0xFFFFFF)

/-- The mnemonic of an instruction (R72). -/
def mnemonic : Instr → String
  | .init => "INIT"
  | .rd _ => "RD"
  | .wr _ _ => "WR"
  | .getPower => "GET.POWER"
  | .getFeed => "GET.FEED"
  | .getPos => "GET.POS"
  | .getFilter => "GET.FILTER"
  | .getAxisEn => "GET.AXIS_EN"
  | .getAxisInv => "GET.AXIS_INV"
  | .getAxisSwap => "GET.AXIS_SWAP"
  | .getScroll => "GET.SCROLL"
  | .getTap => "GET.TAP"
  | .getGlide => "GET.GLIDE"
  | .getImouse => "GET.IMOUSE"
  | .setPower _ => "SET.POWER"
  | .setFilter _ => "SET.FILTER"
  | .setAxisEn _ => "SET.AXIS_EN"
  | .setAxisInv _ => "SET.AXIS_INV"
  | .setAxisSwap _ => "SET.AXIS_SWAP"
  | .setScroll _ => "SET.SCROLL"
  | .setTap _ => "SET.TAP"
  | .setGlide _ => "SET.GLIDE"
  | .setImouse _ => "SET.IMOUSE"
  | .clrst => "CLRST"
  | .enable => "ENABLE"
  | .disable => "DISABLE"
  | .toabs => "TOABS"
  | .torel => "TOREL"
  | .reldata => "RELDATA"
  | .absdata => "ABSDATA"
  | .devid => "DEVID"

/-- A register's name in a command line (R20, R72). -/
def ChipReg.name : ChipReg → String
  | .firmwareId => "FIRMWARE_ID"
  | .firmwareVersion => "FIRMWARE_VERSION"
  | .status1 => "STATUS1"
  | .sysConfig1 => "SYS_CONFIG1"
  | .feedConfig1 => "FEED_CONFIG1"
  | .feedConfig2 => "FEED_CONFIG2"
  | .calConfig1 => "CAL_CONFIG1"
  | .ps2AuxControl => "PS2_AUX_CONTROL"
  | .sampleRate => "SAMPLE_RATE"
  | .zIdle => "Z_IDLE"
  | .zScaler => "Z_SCALER"
  | .sleepInterval => "SLEEP_INTERVAL"
  | .sleepTimer => "SLEEP_TIMER"
  | .packetByte0 => "PACKET_BYTE0"
  | .packetByte1 => "PACKET_BYTE1"
  | .packetByte2 => "PACKET_BYTE2"
  | .packetByte3 => "PACKET_BYTE3"
  | .packetByte4 => "PACKET_BYTE4"
  | .packetByte5 => "PACKET_BYTE5"

/-- A variant's name in a command line (R25, R72). -/
def Variant.name : Variant → String
  | .normal => "Normal"
  | .shutdown => "Shutdown"
  | .sleep => "Sleep"
  | .noFeed => "NoFeed"
  | .enabled => "Enabled"
  | .relative => "Relative"
  | .absolute => "Absolute"
  | .filterOn => "FilterOn"
  | .filterOff => "FilterOff"
  | .bothOn => "BothOn"
  | .xOff => "XOff"
  | .yOff => "YOff"
  | .bothOff => "BothOff"
  | .noInvert => "NoInvert"
  | .invertX => "InvertX"
  | .invertY => "InvertY"
  | .invertBoth => "InvertBoth"
  | .noSwap => "NoSwap"
  | .swap => "Swap"
  | .scrollOn => "ScrollOn"
  | .scrollOff => "ScrollOff"
  | .allTaps => "AllTaps"
  | .noTaps => "NoTaps"
  | .noSecondaryTap => "NoSecondaryTap"
  | .glideOn => "GlideOn"
  | .glideOff => "GlideOff"
  | .iMouseOff => "IMouseOff"
  | .iMouseOn => "IMouseOn"

/-- The SET command of a field by its code; none for FEED and POS, whose setters are the transitions (R64, R73). -/
def setterOf (f : Field) (c : Byte) : Option Instr :=
  match f with
  | .power => some (.setPower c)
  | .feed => none
  | .pos => none
  | .filter => some (.setFilter c)
  | .axisEn => some (.setAxisEn c)
  | .axisInv => some (.setAxisInv c)
  | .axisSwap => some (.setAxisSwap c)
  | .scroll => some (.setScroll c)
  | .tap => some (.setTap c)
  | .glide => some (.setGlide c)
  | .imouse => some (.setImouse c)

/-- `encode_F` (R100): "total on the declared variants and defined on nothing else". -/
def encodeField (sp : FieldSpec) (v : Variant) : Option Byte :=
  (sp.variants.find? fun e => e.1 == v).map (·.2)

/-- A SET line whose operand is a variant's name, `SET.POWER Sleep` (R72): the name stands for its code. -/
def setByName (ft : FieldTable) (f : Field) (v : Variant) : Option Instr :=
  (encodeField (ft.get f) v).bind (setterOf f)

/-- The GET command of a field (R64, R73). -/
def getterOf : Field → Instr
  | .power => .getPower
  | .feed => .getFeed
  | .pos => .getPos
  | .filter => .getFilter
  | .axisEn => .getAxisEn
  | .axisInv => .getAxisInv
  | .axisSwap => .getAxisSwap
  | .scroll => .getScroll
  | .tap => .getTap
  | .glide => .getGlide
  | .imouse => .getImouse

/-- The word's bits as spec/opcode_table.json numbers them: one 24-bit number, bit 0 the least significant. Bits from
`nbits` up count as zero, and no command has a bit above bit 23. -/
def decodeTableWord (nbits w : Nat) : Option Instr :=
  if w % 2 ^ nbits < 2 ^ 24 then
    match decode (BitVec.ofNat 24 (w % 2 ^ nbits)) with
    | .ok i => some i
    | .error _ => none
  else none

end Sys2Proof
end

