-- ==== Sys2Proof/Machine/State.lean ====
section
/-! DEFINITION. The state: the five registers of the block (R10), the sequencer's position in the command in flight (R14,
R15), the parameters (R3), the ports to the host, the bus and the ready line, and the reset state (R30, R221). -/

namespace Sys2Proof.Machine

/-- One transport transaction as it stands on the bus (R40). -/
inductive Txn
  /-- `BusWriteRead(dev, out, n)` -/
  | writeRead (dev : BitVec 7) (out : List Byte) (n : Nat)
  /-- `BusWrite(dev, bytes)` -/
  | write (dev : BitVec 7) (bytes : List Byte)
  deriving DecidableEq, Repr

/-- How a transaction ended. -/
inductive TxnResult
  /-- `Ok`, with the bytes read (none for a `BusWrite`). -/
  | ok (bytes : List Byte)
  /-- `Err`; what it carries is opaque (R40, R192). -/
  | err
  /-- The block was reset while the transaction was under way (R222): its outcome is unknown. -/
  | abandoned
  deriving DecidableEq, Repr

/-- One environment-visible step of the block (R7): a bus transaction or a pin sample, with its outcome. -/
inductive BusEvent
  | txn (t : Txn) (r : TxnResult)
  | pin (l : PinLevel)
  deriving DecidableEq, Repr

/-- What the host does at the command port at one moment. -/
inductive HostEvent
  /-- presents a command word (R13, R60) -/
  | command (w : CmdWord)
  /-- nothing -/
  | idle
  deriving DecidableEq, Repr

/-- What a command in flight has been given so far: the byte of a transaction (a `BusWrite`'s byte means nothing), or the
level of the ready line. These are the command-local values of R15. -/
inductive Got
  | byte (b : Byte)
  | level (l : PinLevel)
  deriving DecidableEq, Repr

/-- The sequencer: the command in flight, what it has been given so far, and the transaction that has not returned (log entry 5). -/
structure InFlight where
  cmd : Instr
  got : List Got
  waiting : Option Txn
  deriving DecidableEq, Repr

/-- The status of a response (R67), all ten. -/
inductive Status
  | ok | noData | busError | pinError | writeToReadOnly | invalidDiscriminant
  /-- reserved, never produced (R196) -/
  | badChip
  /-- reserved, never produced (R197) -/
  | bankOutOfRange
  | wrongMode | illegalCommand
  deriving DecidableEq, Repr

structure State where
  /-- R10 `tag.pos` -/
  tagPos : PosMode
  /-- R10 `tag.feed` -/
  tagFeed : FeedMode
  /-- R10 `synced` -/
  synced : Bool
  /-- R10 `busy` -/
  busy : Bool
  /-- R10 `tmp` -/
  tmp : Byte
  /-- R14, R15: the command in flight, if one is -/
  inFlight : Option InFlight
  /-- R3: the parameters, fixed at integration -/
  cfg : Params
  /-- R13: the host's side of the command port: what it does next, in order -/
  hostIn : List HostEvent
  /-- R220: the reset input, an input of its own: whether it is pulsed at the steps to come, in order; past the end it is
  not (log entry 22) -/
  resetIn : List Bool
  /-- the transport's answers to come, in order; past its end the answers are free values -/
  busIn : List BusAnswer
  /-- the ready line's levels at the samples to come, in order; past its end the levels are free values -/
  pinIn : List PinLevel
  /-- the model's own counter: how many free values were drawn -/
  draws : Nat
  /-- the response port: every response emitted, in order (R66) -/
  responses : List RespWord
  /-- the bus port and the ready line: every transaction ended and every sample made, in order (R50) -/
  traffic : List BusEvent
  deriving DecidableEq, Repr

/-- The spec gives the block no fault: every command ends in a response (R66) and a transaction that never returns "is a
hang, not a fault" (R9). So no step of the model ends in one, and the type has no constructor. -/
inductive Fault
  deriving DecidableEq, Repr

/-- Why an instruction has no meaning. -/
inductive Refusal
  /-- Raised by an arm of `exec` for an instruction without a meaning. Safe. No arm raises it: all thirty-one commands
  have their meaning. -/
  | notModelled (mnemonic : String)
  deriving DecidableEq, Repr

/-- After reset (R30, R221): tag `(Relative, NoFeed)`, `synced = 0`, `busy = 0`, no response pending. `tmp` is unspecified
there: DESIGN CHOICE 0, log entry 1. The ports hold nothing: nothing was presented, answered or sent (log entry 2). -/
def State.reset : State where
  tagPos := .relative
  tagFeed := .noFeed
  synced := false
  busy := false
  tmp := 0
  inFlight := none
  cfg := integratedParams
  hostIn := []
  resetIn := []
  busIn := []
  pinIn := []
  draws := 0
  responses := []
  traffic := []

end Sys2Proof.Machine
end

