-- ==== Sys2Proof/Machine/Operands.lean ====
section
/-! DEFINITION. The pure functions on operands: bus framing (R42), the bitfield codec (R80, R100, R101), the two packet
decoders and the clamp (R162 to R167). They read no state and write none (R172). -/

namespace Sys2Proof.Machine

/-- `DEV_ADDR` (R41): `0x2A` primary, `0x2C` secondary. -/
def devAddr : Strap → BitVec 7
  | .primary => 0x2A
  | .secondary => 0x2C

/-- `frame_rd` (R42). -/
def frameRd (fr : Framing) (a : Byte) : Byte :=
  match fr with
  | .marked => 0xA0 ||| a
  | .raw => a

/-- `frame_wr` (R42). -/
def frameWr (fr : Framing) (a : Byte) : Byte :=
  match fr with
  | .marked => 0x80 ||| a
  | .raw => a

/-- The one transaction of `MemRead(a, 1)` (R43). -/
def readTxn (cfg : Params) (r : ChipReg) : Txn :=
  .writeRead (devAddr cfg.strap) [frameRd cfg.framing r.addr] 1

/-- The one transaction of `MemWrite(a, 1, v)` (R44): address byte first. -/
def writeTxn (cfg : Params) (r : ChipReg) (v : Byte) : Txn :=
  .write (devAddr cfg.strap) [frameWr cfg.framing r.addr, v]

/-- `READ_ONLY(a)` (R3, R20). -/
def isReadOnly (cfg : Params) (r : ChipReg) : Bool := cfg.readOnly.contains r

/-- `(p & F.mask) >> F.shift` (R101, R103). -/
def fieldBits (sp : FieldSpec) (p : Byte) : Byte := (p &&& sp.mask) >>> sp.shift

/-- The composed byte of `Update` (R80): `(tmp & ~F.mask) | ((c << F.shift) & F.mask)`. -/
def compose (sp : FieldSpec) (c p : Byte) : Byte := (p &&& ~~~sp.mask) ||| ((c <<< sp.shift) &&& sp.mask)

/-- `decode_F` (R101) on any byte; none is `Err(InvalidDiscriminant)`. -/
def decodeField (sp : FieldSpec) (c : Byte) : Option Variant :=
  (sp.variants.find? fun e => e.2 == c).map (·.1)

/-- `toInt9` (R163): "value − 256" when the sign bit is set, else the byte's value. -/
def toInt9 (s : Bool) (m : Byte) : Int := if s then (m.toNat : Int) - 256 else (m.toNat : Int)

/-- `RelativeData` (R68, R162). -/
structure RelativeData where
  primaryPressed : Bool
  secondaryPressed : Bool
  auxPressed : Bool
  xDelta : Int
  yDelta : Int
  deriving DecidableEq, Repr

/-- `RelDecode` (R162), total on every triple of bytes. -/
def relDecode (b0 b1 b2 : Byte) : RelativeData where
  primaryPressed := b0.getLsbD 0
  secondaryPressed := b0.getLsbD 1
  auxPressed := b0.getLsbD 2
  xDelta := toInt9 (b0.getLsbD 4) b1
  yDelta := toInt9 (b0.getLsbD 5) b2

/-- The payload of RELDATA with `OK` (R68): `[8:0]` x, `[17:9]` y, both 9-bit two's complement, then the buttons. -/
def relPayload (d : RelativeData) : Payload :=
  (0 : BitVec 15) ++ (BitVec.ofBool d.auxPressed ++ (BitVec.ofBool d.secondaryPressed ++
    (BitVec.ofBool d.primaryPressed ++ (BitVec.ofInt 9 d.yDelta ++ BitVec.ofInt 9 d.xDelta))))

/-- `AbsoluteData` (R68, R165). -/
structure AbsoluteData where
  buttonState : BitVec 6
  xPos : BitVec 12
  yPos : BitVec 12
  zLevel : BitVec 6
  deriving DecidableEq, Repr

/-- `AbsDecode` (R165): the nibbles are masked in place and then shifted, X by 8 and Y by 4. -/
def absDecode (bb xl yl hn zb : Byte) : AbsoluteData where
  buttonState := (bb &&& 0x3F).setWidth 6
  xPos := xl.setWidth 12 ||| ((hn &&& 0x0F).setWidth 12 <<< 8)
  yPos := yl.setWidth 12 ||| ((hn &&& 0xF0).setWidth 12 <<< 4)
  zLevel := (zb &&& 0x3F).setWidth 6

/-- `min(max(v, lo), hi)` on unsigned 12-bit numbers (R167). -/
def clampTo (lo hi v : BitVec 12) : BitVec 12 :=
  let m := if v < lo then lo else v
  if hi < m then hi else m

/-- `Clamp` (R167): off by default; `z_level` and `button_state` are never clamped. -/
def clamp (cfg : Params) (d : AbsoluteData) : AbsoluteData :=
  if cfg.clampEnable then
    { d with xPos := clampTo cfg.xLower cfg.xUpper d.xPos, yPos := clampTo cfg.yLower cfg.yUpper d.yPos }
  else d

/-- The payload of ABSDATA with `OK` (R68): `[11:0]` x, `[23:12]` y, `[29:24]` z, `[35:30]` buttons. -/
def absPayload (d : AbsoluteData) : Payload :=
  d.buttonState ++ (d.zLevel ++ (d.yPos ++ d.xPos))

/-- A payload that is one byte at `[7:0]` (R68: RD, DEVID, GET.x). -/
def bytePayload (b : Byte) : Payload := b.setWidth 36

end Sys2Proof.Machine
end

