-- ==== Sys2Proof/Machine/Flags.lean ====
section
/-! DEFINITION. The flag-like state: the mode gate over the tag and `synced` (R140, R147), which commands are transitions
(R146), the status codes and the response word (R66, R67), and the level outputs (R71). The block has no condition codes
(R16). -/

namespace Sys2Proof.Machine

/-- The sets of tag states in which a command exists (R140). -/
inductive Gate
  | always
  | relative
  | feedOff
  | feedOn
  | relativeOn
  | absoluteOn
  deriving DecidableEq, Repr

/-- A gated command also requires `synced = 1`; a command whose set is every state does not look at it (R140). -/
def Gate.holds (g : Gate) (s : State) : Bool :=
  match g with
  | .always => true
  | .relative => s.synced && s.tagPos == .relative
  | .feedOff => s.synced && s.tagFeed == .noFeed
  | .feedOn => s.synced && s.tagFeed == .enabled
  | .relativeOn => s.synced && s.tagPos == .relative && s.tagFeed == .enabled
  | .absoluteOn => s.synced && s.tagPos == .absolute && s.tagFeed == .enabled

/-- `GateField` (R147). -/
def fieldGate : Field → Gate
  | .power => .always
  | .feed => .always
  | .pos => .always
  | .filter => .always
  | .axisEn => .always
  | .axisInv => .relative
  | .axisSwap => .relative
  | .scroll => .relative
  | .tap => .relative
  | .glide => .relative
  | .imouse => .relative

/-- The table of R140. -/
def gateOf : Instr → Gate
  | .init => .always
  | .rd _ => .always
  | .wr _ _ => .always
  | .getPower => fieldGate .power
  | .getFeed => fieldGate .feed
  | .getPos => fieldGate .pos
  | .getFilter => fieldGate .filter
  | .getAxisEn => fieldGate .axisEn
  | .getAxisInv => fieldGate .axisInv
  | .getAxisSwap => fieldGate .axisSwap
  | .getScroll => fieldGate .scroll
  | .getTap => fieldGate .tap
  | .getGlide => fieldGate .glide
  | .getImouse => fieldGate .imouse
  | .setPower _ => fieldGate .power
  | .setFilter _ => fieldGate .filter
  | .setAxisEn _ => fieldGate .axisEn
  | .setAxisInv _ => fieldGate .axisInv
  | .setAxisSwap _ => fieldGate .axisSwap
  | .setScroll _ => fieldGate .scroll
  | .setTap _ => fieldGate .tap
  | .setGlide _ => fieldGate .glide
  | .setImouse _ => fieldGate .imouse
  | .clrst => .always
  | .enable => .feedOff
  | .disable => .feedOn
  | .toabs => .relativeOn
  | .torel => .absoluteOn
  | .reldata => .relativeOn
  | .absdata => .absoluteOn
  | .devid => .always

/-- The transition commands of R146. -/
def isTransition : Instr → Bool
  | .init => true
  | .enable => true
  | .disable => true
  | .toabs => true
  | .torel => true
  | .rd _ => false
  | .wr _ _ => false
  | .getPower => false
  | .getFeed => false
  | .getPos => false
  | .getFilter => false
  | .getAxisEn => false
  | .getAxisInv => false
  | .getAxisSwap => false
  | .getScroll => false
  | .getTap => false
  | .getGlide => false
  | .getImouse => false
  | .setPower _ => false
  | .setFilter _ => false
  | .setAxisEn _ => false
  | .setAxisInv _ => false
  | .setAxisSwap _ => false
  | .setScroll _ => false
  | .setTap _ => false
  | .setGlide _ => false
  | .setImouse _ => false
  | .clrst => false
  | .reldata => false
  | .absdata => false
  | .devid => false

/-- The status codes of R67. -/
def Status.code : Status → BitVec 4
  | .ok => 0
  | .noData => 1
  | .busError => 2
  | .pinError => 3
  | .writeToReadOnly => 4
  | .invalidDiscriminant => 5
  | .badChip => 6
  | .bankOutOfRange => 7
  | .wrongMode => 8
  | .illegalCommand => 9

/-- The response word of R66: `[39:36]` the status code, `[35:0]` the payload. -/
def respWord (st : Status) (p : Payload) : RespWord := st.code ++ p

/-- The status code of a response word (R66). -/
def statusCodeOf (w : RespWord) : BitVec 4 := w.extractLsb' 36 4

/-- The payload of a response word (R66). -/
def payloadOf (w : RespWord) : Payload := w.extractLsb' 0 36

/-- The errors after which a transition leaves `synced = 0` (R146, R200). -/
def desyncs : Status → Bool
  | .busError => true
  | .writeToReadOnly => true
  | .ok => false
  | .noData => false
  | .pinError => false
  | .invalidDiscriminant => false
  | .badChip => false
  | .bankOutOfRange => false
  | .wrongMode => false
  | .illegalCommand => false

/-- The bit of a tag value (R10). -/
def posBit : PosMode → BitVec 1
  | .relative => 0
  | .absolute => 1

def feedBit : FeedMode → BitVec 1
  | .noFeed => 0
  | .enabled => 1

/-- The four level outputs of R71. -/
structure Levels where
  tagPos : BitVec 1
  tagFeed : BitVec 1
  synced : BitVec 1
  busy : BitVec 1
  deriving DecidableEq, Repr

/-- What the block shows "at all times" (R71). -/
def levels (s : State) : Levels where
  tagPos := posBit s.tagPos
  tagFeed := feedBit s.tagFeed
  synced := BitVec.ofBool s.synced
  busy := BitVec.ofBool s.busy

end Sys2Proof.Machine
end

