-- ==== Sys2Proof/Machine/Ops.lean ====
section
/-! DEFINITION. The shared operations: drawing the environment's answers, the updates of State, a command's script and its
interpreter, ending a command with a response or an error (R66, R200), the register primitives (R43, R44, R80, R81), the
data-ready gate (R161), accepting a command (R14), the command port and the reset input (R220 to R222). -/

namespace Sys2Proof.Machine

/-! ### What the environment gives -/

/-- The transport's next answer: the script's head, or a free value where the script has ended (R8). -/
def State.drawBus (s : State) : BusAnswer × State :=
  match s.busIn with
  | a :: rest => (a, { s with busIn := rest })
  | [] => (Config.freeBus s.draws, { s with draws := s.draws + 1 })

/-- The ready line's level at the next sample: the script's head, or a free value where the script has ended (R160). -/
def State.drawPin (s : State) : PinLevel × State :=
  match s.pinIn with
  | l :: rest => (l, { s with pinIn := rest })
  | [] => (Config.freePin s.draws, { s with draws := s.draws + 1 })

/-! ### Updates of State -/

/-- `tmp <- v` (R80). -/
def State.setTmp (s : State) (v : Byte) : State := { s with tmp := v }

/-- What a script assigns: a tag bit or `synced`. -/
inductive Assign
  | pos (p : PosMode)
  | feed (f : FeedMode)
  | synced (b : Bool)
  deriving DecidableEq, Repr

def State.assign (s : State) (a : Assign) : State :=
  match a with
  | .pos p => { s with tagPos := p }
  | .feed f => { s with tagFeed := f }
  | .synced b => { s with synced := b }

/-- A transaction ended, or a sample was made. -/
def State.record (s : State) (e : BusEvent) : State := { s with traffic := s.traffic ++ [e] }

/-- The command in flight is given `g`, and no transaction is under way any more. -/
def State.remember (s : State) (g : Got) : State :=
  { s with inFlight := s.inFlight.map fun f => { f with got := f.got ++ [g], waiting := none } }

/-- The transaction is under way and has not returned (R9). -/
def State.waitFor (s : State) (t : Txn) : State :=
  { s with inFlight := s.inFlight.map fun f => { f with waiting := some t } }

/-- The command is accepted: `busy <- 1` (R14). -/
def State.accept (s : State) (i : Instr) : State :=
  { s with busy := true, inFlight := some ⟨i, [], none⟩ }

/-- The response is emitted: "at that moment `busy` returns to 0" (R66). -/
def State.finish (s : State) (st : Status) (p : Payload) : State :=
  { s with responses := s.responses ++ [respWord st p], busy := false, inFlight := none }

def State.withHostIn (s : State) (h : List HostEvent) : State := { s with hostIn := h }

def State.withResetIn (s : State) (r : List Bool) : State := { s with resetIn := r }

/-! ### Errors: the one exceptional outcome -/

/-- `raise E(info)` (R200): no further transaction; a transition that passed its gate clears `synced` on `BusError` and
`WriteToReadOnly`; then the response `{code(E), info}`. There is nothing to return from (R202). -/
def State.raiseError (s : State) (transition : Bool) (e : Status) (info : Payload) : State :=
  (if transition && desyncs e then s.assign (.synced false) else s).finish e info

/-! ### A command's script -/

/-- The pseudocode of a command: what it does next, and how it goes on with what it is given. -/
inductive Script
  /-- `respond` -/
  | respond (st : Status) (p : Payload)
  /-- `raise` -/
  | raise (e : Status) (info : Payload)
  /-- one transaction; the script goes on with the byte an `Ok` brings, an `Err` raises `BusError` -/
  | xfer (t : Txn) (k : Byte → Script)
  /-- `PinSample()` -/
  | sample (k : PinLevel → Script)
  /-- `tmp <- v`, then go on with what `tmp` holds (R15: the write is composed from `tmp`) -/
  | latch (v : Byte) (k : Byte → Script)
  /-- write a tag bit or `synced` -/
  | assign (a : Assign) (k : Script)

/-- `Ok` of a transaction: the byte of a `BusWriteRead`, nothing of a `BusWrite` (R40). -/
def okResult (t : Txn) (b : Byte) : TxnResult :=
  match t with
  | .writeRead _ _ _ => .ok [b]
  | .write _ _ => .ok []

/-- Run a script from its start. `past` is what the command was given before it last stopped: it is taken first, without
any new transaction or sample (R50: none is repeated), so that a command goes on where it stood (log entries 5, 21). -/
def run (transition : Bool) : Script → List Got → State → State
  | .respond st p, _, s => s.finish st p
  | .raise e info, _, s => s.raiseError transition e info
  | .xfer _ k, .byte b :: past, s => run transition (k b) past s
  | .xfer t k, [], s =>
    match s.drawBus with
    | (.ok b, s1) => run transition (k b) [] ((s1.record (.txn t (okResult t b))).remember (.byte b))
    | (.err, s1) => (s1.record (.txn t .err)).raiseError transition .busError 0
    | (.stall, s1) => s1.waitFor t
    | (.later, s1) => s1
  | .xfer _ _, .level _ :: _, s => s
  | .sample k, .level l :: past, s => run transition (k l) past s
  | .sample k, [], s =>
    match s.drawPin with
    | (l, s1) => run transition (k l) [] ((s1.record (.pin l)).remember (.level l))
  | .sample _, .byte _ :: _, s => s
  | .latch v k, past, s => run transition (k (s.setTmp v).tmp) past (s.setTmp v)
  | .assign a k, past, s => run transition k past (s.assign a)

/-- A command: accepted when the block is idle, gated before anything else (R140, R201), run to its response or to a
transaction that does not return. A block that is busy with this very command goes on with it; a block that is busy
otherwise does not accept it (R14, log entry 12). -/
def runCommand (i : Instr) (sc : Script) (s : State) : State :=
  if s.busy then
    match s.inFlight with
    | some f => if f.cmd = i then run (isTransition i) sc f.got s else s
    | none => s
  else if (gateOf i).holds s then run (isTransition i) sc [] (s.accept i)
  else (s.accept i).raiseError false .wrongMode 0

/-! ### The register primitives -/

/-- `MemRead(a, 1)` (R43). -/
def memRead (cfg : Params) (r : ChipReg) (k : Byte → Script) : Script := .xfer (readTxn cfg r) k

/-- `MemWrite(a, 1, v)` (R44): a read-only register is refused before any transaction. -/
def memWrite (cfg : Params) (r : ChipReg) (v : Byte) (k : Script) : Script :=
  if isReadOnly cfg r then .raise .writeToReadOnly 0 else .xfer (writeTxn cfg r v) fun _ => k

/-- `Update(F, c)` (R80): refuse a read-only register, read into `tmp`, write the byte composed from `tmp`. -/
def update (cfg : Params) (f : Field) (c : Byte) (k : Script) : Script :=
  if isReadOnly cfg (cfg.fields.get f).reg then .raise .writeToReadOnly 0
  else memRead cfg (cfg.fields.get f).reg fun p =>
    .latch p fun tmp => memWrite cfg (cfg.fields.get f).reg (compose (cfg.fields.get f) c tmp) k

/-- `ClearStatus()` (R81): `MemWrite(0x02, 1, 0x00)`. -/
def clearStatus (cfg : Params) (k : Script) : Script := memWrite cfg .status1 0x00 k

/-- The status half of `DataReady()` (R161): one read of STATUS1, of which only the data-ready bit is looked at. -/
def statusReady (cfg : Params) (ready : Script) : Script :=
  memRead cfg .status1 fun st => if st &&& cfg.drMask = 0 then .respond .noData 0 else ready

/-- `if not DataReady() then respond NO_DATA` (R161, R169): the line first, and STATUS1 only if the line is high. -/
def dataReady (cfg : Params) (ready : Script) : Script :=
  if cfg.hasReadyPin then
    .sample fun l =>
      match l with
      | .fault => .raise .pinError 0
      | .low => .respond .noData 0
      | .high => statusReady cfg ready
  else statusReady cfg ready

/-! ### The command port and the reset input -/

/-- A word that is no command (R70, R199): `ILLEGAL_COMMAND`, and nothing else changes. -/
def illegalCommand (s : State) : State := s.finish .illegalCommand 0

/-- The record of a transaction that was under way when the block was reset (R222, log entry 11). -/
def abandonedTraffic (s : State) : List BusEvent :=
  match s.inFlight with
  | some f =>
    match f.waiting with
    | some t => [.txn t .abandoned]
    | none => []
  | none => []

/-- The reset input (R220 to R222): the registers of R221, no transaction and no sample; a command in flight is abandoned
without a response. `tmp` is unspecified: a free value (log entry 3). A command that is pending at the port stays there
(DESIGN CHOICE, log entry 22). -/
def blockReset (s : State) : State :=
  { s with
    tagPos := .relative, tagFeed := .noFeed, synced := false, busy := false
    tmp := Config.freeTmp s.draws, draws := s.draws + 1
    inFlight := none, traffic := s.traffic ++ abandonedTraffic s }

/-- What a step does: run a command, or nothing. -/
inductive PortAction
  /-- run this command, accepted or in flight -/
  | go (i : Instr) (s : State)
  /-- nothing is run; the block is in this state -/
  | rest (s : State)

/-- The host's next event at a block that is busy: a command stays pending at the port (R14). -/
def busyAction (s : State) : PortAction :=
  match s.inFlight with
  | some f => .go f.cmd s
  | none => .rest s

/-- The command port (R13, R14, R70, log entry 12): a busy block goes on with its command; an idle one takes the command
the host presents, in the order of presentation, and does nothing where none is presented. -/
def commandPort (s : State) : PortAction :=
  match s.hostIn with
  | .idle :: rest => if s.busy then busyAction (s.withHostIn rest) else .rest (s.withHostIn rest)
  | .command w :: rest =>
    if s.busy then busyAction s
    else
      match decodeWith s.cfg.fields w with
      | .ok i => .go i (s.withHostIn rest)
      | .error _ => .rest (illegalCommand (s.withHostIn rest))
  | [] => if s.busy then busyAction s else .rest s

/-- The reset input is pulsed at this step (R220). -/
def State.resetPulsed (s : State) : Bool := s.resetIn.headD false

/-- What the block does at one step: a reset if its input is pulsed (R220 to R222, log entry 16), else what the command
port says. DESIGN CHOICE, log entry 22, where the spec is silent: within a step the reset input is looked at before the
port, whatever is pending there, so that a reset never waits for a pending command to be accepted, not even at a hung
transport; and a reset neither drops nor answers a command pending at the port, which an idle block then takes. -/
def portAction (s : State) : PortAction :=
  if s.resetPulsed then .rest (blockReset (s.withResetIn s.resetIn.tail))
  else commandPort (s.withResetIn s.resetIn.tail)

end Sys2Proof.Machine
end

