-- ==== Sys2Proof/Machine/BitfieldGet.lean ====
section
/-! DEFINITION. The getters: GET.x of the eleven fields (R103 to R114). -/

namespace Sys2Proof.Machine

/-- Generic GET.F after its gate (R103): read the field's register, take the field, decode it. -/
def getScript (cfg : Params) (f : Field) : Script :=
  memRead cfg (cfg.fields.get f).reg fun p =>
    match decodeField (cfg.fields.get f) (fieldBits (cfg.fields.get f) p) with
    | some _ => .respond .ok (bytePayload (fieldBits (cfg.fields.get f) p))
    | none => .raise .invalidDiscriminant (bytePayload (fieldBits (cfg.fields.get f) p))

/-- R104 -/
def execGetPower (s : State) : Host.Outcome State Fault Refusal :=
  .next (runCommand .getPower (getScript s.cfg .power) s)

/-- R105 -/
def execGetFeed (s : State) : Host.Outcome State Fault Refusal :=
  .next (runCommand .getFeed (getScript s.cfg .feed) s)

/-- R106 -/
def execGetPos (s : State) : Host.Outcome State Fault Refusal :=
  .next (runCommand .getPos (getScript s.cfg .pos) s)

/-- R107 -/
def execGetFilter (s : State) : Host.Outcome State Fault Refusal :=
  .next (runCommand .getFilter (getScript s.cfg .filter) s)

/-- R108 -/
def execGetAxisEn (s : State) : Host.Outcome State Fault Refusal :=
  .next (runCommand .getAxisEn (getScript s.cfg .axisEn) s)

/-- R109 -/
def execGetAxisInv (s : State) : Host.Outcome State Fault Refusal :=
  .next (runCommand .getAxisInv (getScript s.cfg .axisInv) s)

/-- R110 -/
def execGetAxisSwap (s : State) : Host.Outcome State Fault Refusal :=
  .next (runCommand .getAxisSwap (getScript s.cfg .axisSwap) s)

/-- R111 -/
def execGetScroll (s : State) : Host.Outcome State Fault Refusal :=
  .next (runCommand .getScroll (getScript s.cfg .scroll) s)

/-- R112 -/
def execGetTap (s : State) : Host.Outcome State Fault Refusal :=
  .next (runCommand .getTap (getScript s.cfg .tap) s)

/-- R113 -/
def execGetGlide (s : State) : Host.Outcome State Fault Refusal :=
  .next (runCommand .getGlide (getScript s.cfg .glide) s)

/-- R114 -/
def execGetImouse (s : State) : Host.Outcome State Fault Refusal :=
  .next (runCommand .getImouse (getScript s.cfg .imouse) s)

end Sys2Proof.Machine
end

