-- ==== Sys2Proof/Machine/BitfieldSet.lean ====
section
/-! DEFINITION. The setters: SET.x of the nine fields that have one (R115 to R124). -/

namespace Sys2Proof.Machine

/-- Generic SET.F after its gate (R115): `Update(F, c); respond OK()`. -/
def setScript (cfg : Params) (f : Field) (c : Byte) : Script := update cfg f c (.respond .ok 0)

/-- R116 -/
def execSetPower (c : Byte) (s : State) : Host.Outcome State Fault Refusal :=
  .next (runCommand (.setPower c) (setScript s.cfg .power c) s)

/-- R117 -/
def execSetFilter (c : Byte) (s : State) : Host.Outcome State Fault Refusal :=
  .next (runCommand (.setFilter c) (setScript s.cfg .filter c) s)

/-- R118 -/
def execSetAxisEn (c : Byte) (s : State) : Host.Outcome State Fault Refusal :=
  .next (runCommand (.setAxisEn c) (setScript s.cfg .axisEn c) s)

/-- R119 -/
def execSetAxisInv (c : Byte) (s : State) : Host.Outcome State Fault Refusal :=
  .next (runCommand (.setAxisInv c) (setScript s.cfg .axisInv c) s)

/-- R120 -/
def execSetAxisSwap (c : Byte) (s : State) : Host.Outcome State Fault Refusal :=
  .next (runCommand (.setAxisSwap c) (setScript s.cfg .axisSwap c) s)

/-- R121 -/
def execSetScroll (c : Byte) (s : State) : Host.Outcome State Fault Refusal :=
  .next (runCommand (.setScroll c) (setScript s.cfg .scroll c) s)

/-- R122 -/
def execSetTap (c : Byte) (s : State) : Host.Outcome State Fault Refusal :=
  .next (runCommand (.setTap c) (setScript s.cfg .tap c) s)

/-- R123 -/
def execSetGlide (c : Byte) (s : State) : Host.Outcome State Fault Refusal :=
  .next (runCommand (.setGlide c) (setScript s.cfg .glide c) s)

/-- R124 -/
def execSetImouse (c : Byte) (s : State) : Host.Outcome State Fault Refusal :=
  .next (runCommand (.setImouse c) (setScript s.cfg .imouse c) s)

end Sys2Proof.Machine
end

