-- ==== Sys2Proof/Machine/Modes.lean ====
section
/-! DEFINITION. The commands that move the mode tag: INIT, ENABLE, DISABLE, TOABS, TOREL (R141 to R145). Their gates are
`gateOf` (R140) and their failure is `raiseError` (R146). -/

namespace Sys2Proof.Machine

/-- R141: feed off, then position relative, then the tag `(Relative, NoFeed)` and `synced <- 1`. -/
def initScript (cfg : Params) : Script :=
  update cfg .feed 0 <| update cfg .pos 0 <|
    .assign (.pos .relative) <| .assign (.feed .noFeed) <| .assign (.synced true) <| .respond .ok 0

def execInit (s : State) : Host.Outcome State Fault Refusal :=
  .next (runCommand .init (initScript s.cfg) s)

/-- R142: feed on, clear the status flags, then the tag. -/
def enableScript (cfg : Params) : Script :=
  update cfg .feed 1 <| clearStatus cfg <| .assign (.feed .enabled) <| .respond .ok 0

def execEnable (s : State) : Host.Outcome State Fault Refusal :=
  .next (runCommand .enable (enableScript s.cfg) s)

/-- R143: feed off, then the tag; no status clear. -/
def disableScript (cfg : Params) : Script :=
  update cfg .feed 0 <| .assign (.feed .noFeed) <| .respond .ok 0

def execDisable (s : State) : Host.Outcome State Fault Refusal :=
  .next (runCommand .disable (disableScript s.cfg) s)

/-- R144: position absolute, then the tag. -/
def toabsScript (cfg : Params) : Script :=
  update cfg .pos 1 <| .assign (.pos .absolute) <| .respond .ok 0

def execToabs (s : State) : Host.Outcome State Fault Refusal :=
  .next (runCommand .toabs (toabsScript s.cfg) s)

/-- R145: position relative, then the tag. -/
def torelScript (cfg : Params) : Script :=
  update cfg .pos 0 <| .assign (.pos .relative) <| .respond .ok 0

def execTorel (s : State) : Host.Outcome State Fault Refusal :=
  .next (runCommand .torel (torelScript s.cfg) s)

end Sys2Proof.Machine
end

