-- ==== Sys2Proof/Machine/Packets.lean ====
section
/-! DEFINITION. The packet commands RELDATA and ABSDATA (R170, R171): the data-ready gate, the packet reads in the order of
`REL_REGS` and `ABS_REGS`, the flag clear (R168), the decoded sample. -/

namespace Sys2Proof.Machine

/-- R170 after its gate. -/
def reldataScript (cfg : Params) : Script :=
  dataReady cfg <|
    memRead cfg cfg.relRegs.b0 fun b0 =>
    memRead cfg cfg.relRegs.b1 fun b1 =>
    memRead cfg cfg.relRegs.b2 fun b2 =>
    clearStatus cfg <|
    .respond .ok (relPayload (relDecode b0 b1 b2))

def execReldata (s : State) : Host.Outcome State Fault Refusal :=
  .next (runCommand .reldata (reldataScript s.cfg) s)

/-- R171 after its gate. -/
def absdataScript (cfg : Params) : Script :=
  dataReady cfg <|
    memRead cfg cfg.absRegs.button fun bb =>
    memRead cfg cfg.absRegs.xLow fun xl =>
    memRead cfg cfg.absRegs.yLow fun yl =>
    memRead cfg cfg.absRegs.highNibbles fun hn =>
    memRead cfg cfg.absRegs.zLevel fun zb =>
    clearStatus cfg <|
    .respond .ok (absPayload (clamp cfg (absDecode bb xl yl hn zb)))

def execAbsdata (s : State) : Host.Outcome State Fault Refusal :=
  .next (runCommand .absdata (absdataScript s.cfg) s)

end Sys2Proof.Machine
end

