-- ==== Sys2Proof/Machine/RegAccess.lean ====
section
/-! DEFINITION. The register access engine's commands: RD, WR, CLRST, DEVID (R82 to R85). -/

namespace Sys2Proof.Machine

/-- R82: `v <- MemRead(a, 1); respond OK(v)`. -/
def execRd (r : ChipReg) (s : State) : Host.Outcome State Fault Refusal :=
  .next (runCommand (.rd r) (memRead s.cfg r fun v => .respond .ok (bytePayload v)) s)

/-- R83: refuse a read-only register; clear `synced` when the register is FEED_CONFIG1, before the write; write. -/
def wrScript (cfg : Params) (r : ChipReg) (b : Byte) : Script :=
  if isReadOnly cfg r then .raise .writeToReadOnly 0
  else
    let w := memWrite cfg r b (.respond .ok 0)
    if r = .feedConfig1 then .assign (.synced false) w else w

def execWr (r : ChipReg) (b : Byte) (s : State) : Host.Outcome State Fault Refusal :=
  .next (runCommand (.wr r b) (wrScript s.cfg r b) s)

/-- R84: `ClearStatus(); respond OK()`. -/
def execClrst (s : State) : Host.Outcome State Fault Refusal :=
  .next (runCommand .clrst (clearStatus s.cfg (.respond .ok 0)) s)

/-- R85: `v <- MemRead(0x00, 1); respond OK(v)`, the byte uninterpreted. -/
def execDevid (s : State) : Host.Outcome State Fault Refusal :=
  .next (runCommand .devid (memRead s.cfg .firmwareId fun v => .respond .ok (bytePayload v)) s)

end Sys2Proof.Machine
end

