-- ==== Sys2Proof/Machine/Dispatch.lean ====
section
/-! DEFINITION. One arm for each command. -/

namespace Sys2Proof.Machine

def exec (i : Instr) (s : State) : Host.Outcome State Fault Refusal :=
  match i with
  | .init => Sys2Proof.Machine.execInit s
  | .rd r => Sys2Proof.Machine.execRd r s
  | .wr r b => Sys2Proof.Machine.execWr r b s
  | .getPower => Sys2Proof.Machine.execGetPower s
  | .getFeed => Sys2Proof.Machine.execGetFeed s
  | .getPos => Sys2Proof.Machine.execGetPos s
  | .getFilter => Sys2Proof.Machine.execGetFilter s
  | .getAxisEn => Sys2Proof.Machine.execGetAxisEn s
  | .getAxisInv => Sys2Proof.Machine.execGetAxisInv s
  | .getAxisSwap => Sys2Proof.Machine.execGetAxisSwap s
  | .getScroll => Sys2Proof.Machine.execGetScroll s
  | .getTap => Sys2Proof.Machine.execGetTap s
  | .getGlide => Sys2Proof.Machine.execGetGlide s
  | .getImouse => Sys2Proof.Machine.execGetImouse s
  | .setPower c => Sys2Proof.Machine.execSetPower c s
  | .setFilter c => Sys2Proof.Machine.execSetFilter c s
  | .setAxisEn c => Sys2Proof.Machine.execSetAxisEn c s
  | .setAxisInv c => Sys2Proof.Machine.execSetAxisInv c s
  | .setAxisSwap c => Sys2Proof.Machine.execSetAxisSwap c s
  | .setScroll c => Sys2Proof.Machine.execSetScroll c s
  | .setTap c => Sys2Proof.Machine.execSetTap c s
  | .setGlide c => Sys2Proof.Machine.execSetGlide c s
  | .setImouse c => Sys2Proof.Machine.execSetImouse c s
  | .clrst => Sys2Proof.Machine.execClrst s
  | .enable => Sys2Proof.Machine.execEnable s
  | .disable => Sys2Proof.Machine.execDisable s
  | .toabs => Sys2Proof.Machine.execToabs s
  | .torel => Sys2Proof.Machine.execTorel s
  | .reldata => Sys2Proof.Machine.execReldata s
  | .absdata => Sys2Proof.Machine.execAbsdata s
  | .devid => Sys2Proof.Machine.execDevid s

end Sys2Proof.Machine
end

