-- ==== Sys2Proof/Machine/Step.lean ====
section
/-! DEFINITION. One step: what the reset input and the command port say, and the command they say to run. -/

namespace Sys2Proof.Machine

/-- A step runs one command from its acceptance, or from where it stands, to its response or to a transaction that does
not return; or it is a reset, an illegal word, or nothing (R13, R14, R70, R220). -/
def step (s : State) : Host.Outcome State Fault Refusal :=
  match portAction s with
  | .go i s1 => exec i s1
  | .rest s1 => .next s1

/-- The word presented at the port of an idle block, before whatever the host does next, at a step with no reset. The bits
from `nbits` up count as zero. A command in flight, which would keep the port closed (R14), is dropped. -/
def State.withFetchWord (s : State) (nbits w : Nat) : State :=
  { s with
    busy := false, inFlight := none
    hostIn := .command (BitVec.ofNat 24 (w % 2 ^ nbits)) :: s.hostIn
    resetIn := false :: s.resetIn }

end Sys2Proof.Machine
end

