-- ==== Sys2Proof/Safety.lean ====
section
/-! DEFINITION. What the claims call a sound state of the block, a legal response, a lawful transaction, and the passive
chip: the premise under which the tag can be held against the chip (R8, R11). -/

namespace Sys2Proof.Machine

/-- The nineteen addresses of the map (R20), by number. -/
def mapAddrs : List Byte :=
  [0x00, 0x01, 0x02, 0x03, 0x04, 0x05, 0x07, 0x08, 0x09, 0x0A, 0x0B, 0x0C, 0x0D, 0x12, 0x13, 0x14, 0x15, 0x16, 0x17]

/-- The sequencer agrees with the registers: `busy` is 1 exactly while a command is in flight (R14), and the gate
that command passed is still open (R148: the tag changes only "at the
successful end of a transition command"). -/
def State.sound (s : State) : Bool :=
  match s.inFlight with
  | none => !s.busy
  | some f => s.busy && (gateOf f.cmd).holds s

/-- A response word of R67 and R68 whatever command it answers: one of the eight statuses that are produced, and the payload
0 of every `NO_DATA` and of every error but `INVALID_DISCRIMINANT`, whose payload is one byte. -/
def legalResponse (w : RespWord) : Bool :=
  let c := statusCodeOf w
  c == 0 || (c == 5 && (payloadOf w).toNat < 256) ||
    ((c == 1 || c == 2 || c == 3 || c == 4 || c == 8 || c == 9) && payloadOf w == 0)

/-- Every response emitted is legal. -/
def State.responsesLegal (s : State) : Bool := s.responses.all legalResponse

/-- A transaction the block may make (R41 to R44, R48), by number: to `0x2A` or `0x2C` as the strap says, one byte read from
an address of the map, or one byte written to an address of the map that is no read-only register's. -/
def lawfulTxn (cfg : Params) (t : Txn) : Bool :=
  let dev : BitVec 7 := match cfg.strap with
    | .primary => 0x2A
    | .secondary => 0x2C
  let framed (base a : Byte) : Byte := match cfg.framing with
    | .marked => base + a
    | .raw => a
  match t with
  | .writeRead d [f] n => d == dev && n == 1 && mapAddrs.any fun a => f == framed 0xA0 a
  | .write d [f, _] => d == dev && mapAddrs.any fun a => f == framed 0x80 a && !(cfg.readOnly.any fun r => r.addr == a)
  | _ => false

/-- A step the environment may see (R7): a lawful transaction, or a sample of a line that exists (R160). -/
def lawfulEvent (cfg : Params) (e : BusEvent) : Bool :=
  match e with
  | .txn t _ => lawfulTxn cfg t
  | .pin _ => cfg.hasReadyPin

/-- Every transaction made, and the one under way, is lawful. -/
def State.trafficLawful (s : State) : Bool :=
  s.traffic.all (lawfulEvent s.cfg) &&
    match s.inFlight with
    | none => true
    | some f => f.waiting.all (lawfulTxn s.cfg)

/-! ### The passive chip, a premise about the environment and never state of the block (R8, D22, log entry 8) -/

/-- What one chip register may hold, as far as the traffic of this block tells, and whether every read of it so far brought a
byte it may have held. -/
structure ChipView where
  may : List Byte
  passive : Bool
  deriving DecidableEq, Repr

/-- One event seen from one register: a read brings a byte the register may hold; a write that succeeded leaves the byte
written; a write that failed, or was abandoned, leaves the old byte or the new one (R45, R222). -/
def ChipView.see (cfg : Params) (r : ChipReg) (v : ChipView) : BusEvent → ChipView
  | .txn t (.ok [b]) => if t = readTxn cfg r then { v with passive := v.passive && v.may.contains b } else v
  | .txn (.write d [f, b]) (.ok []) => if d = devAddr cfg.strap ∧ f = frameWr cfg.framing r.addr then { v with may := [b] } else v
  | .txn (.write d [f, b]) .err =>
    if d = devAddr cfg.strap ∧ f = frameWr cfg.framing r.addr then { v with may := v.may ++ [b] } else v
  | .txn (.write d [f, b]) .abandoned =>
    if d = devAddr cfg.strap ∧ f = frameWr cfg.framing r.addr then { v with may := v.may ++ [b] } else v
  | _ => v

/-- The view of a register after some traffic, from the bytes it may hold at the start. -/
def chipView (cfg : Params) (r : ChipReg) (start : List Byte) (es : List BusEvent) : ChipView :=
  es.foldl (ChipView.see cfg r) ⟨start, true⟩

/-- The register byte says what the tag says: its feed field decodes to `tag.feed`, its position field to `tag.pos` (R11). -/
def tagAgrees (cfg : Params) (s : State) (p : Byte) : Bool :=
  decodeField cfg.fields.feed (fieldBits cfg.fields.feed p) ==
      some (match s.tagFeed with | .noFeed => .noFeed | .enabled => .enabled) &&
    decodeField cfg.fields.pos (fieldBits cfg.fields.pos p) ==
      some (match s.tagPos with | .relative => .relative | .absolute => .absolute)

/-- The invariant the tag exists for (R11), under its proviso: if the chip was passive so far and `synced = 1`, then whatever
FEED_CONFIG1 may hold agrees with the tag. -/
def State.tagMatchesChip (s : State) (start : List Byte) : Prop :=
  (chipView s.cfg .feedConfig1 start s.traffic).passive = true → s.synced = true →
    ∀ p ∈ (chipView s.cfg .feedConfig1 start s.traffic).may, tagAgrees s.cfg s p = true

/-- What an INIT in flight has brought FEED_CONFIG1 to (R141): nothing before its first write, the feed bit 0 after it, and
of the second byte read the feed bit is 0; after its last write both bits are. -/
def initMidWay (may : List Byte) : List Got → Prop
  | [] => True
  | [_] => True
  | [_, _] => ∀ b ∈ may, b.getLsbD 0 = false
  | [_, _, .byte p] => p.getLsbD 0 = false
  | _ => ∀ b ∈ may, b &&& 0x03 = 0

/-- What any other command in flight that updates FEED_CONFIG1 has brought it to: before its write the register, and the byte
that was read from it, agree with the tag as it is; after it the register agrees with the tag the command will leave. -/
def updateMidWay (s after : State) (may : List Byte) (got : List Got) : Prop :=
  s.synced = true →
    match got with
    | [] => ∀ b ∈ may, tagAgrees s.cfg s b = true
    | [.byte p] => tagAgrees s.cfg s p = true ∧ ∀ b ∈ may, tagAgrees s.cfg s b = true
    | _ => ∀ b ∈ may, tagAgrees s.cfg after b = true

/-- What holds of FEED_CONFIG1 while a command is in flight. -/
def midWay (s : State) (may : List Byte) (f : InFlight) : Prop :=
  let agrees := s.synced = true → ∀ b ∈ may, tagAgrees s.cfg s b = true
  match f.cmd with
  | .init => initMidWay may f.got
  | .enable => updateMidWay s { s with tagFeed := .enabled } may f.got
  | .disable => updateMidWay s { s with tagFeed := .noFeed } may f.got
  | .toabs => updateMidWay s { s with tagPos := .absolute } may f.got
  | .torel => updateMidWay s { s with tagPos := .relative } may f.got
  | .setFilter _ => updateMidWay s s may f.got
  | .setAxisEn _ => updateMidWay s s may f.got
  | .setAxisInv _ => updateMidWay s s may f.got
  | .rd _ => agrees
  | .wr _ _ => agrees
  | .getPower => agrees
  | .getFeed => agrees
  | .getPos => agrees
  | .getFilter => agrees
  | .getAxisEn => agrees
  | .getAxisInv => agrees
  | .getAxisSwap => agrees
  | .getScroll => agrees
  | .getTap => agrees
  | .getGlide => agrees
  | .getImouse => agrees
  | .setPower _ => agrees
  | .setAxisSwap _ => agrees
  | .setScroll _ => agrees
  | .setTap _ => agrees
  | .setGlide _ => agrees
  | .setImouse _ => agrees
  | .clrst => agrees
  | .reldata => agrees
  | .absdata => agrees
  | .devid => agrees

/-- The invariant of R11 made inductive: of an idle block `tagMatchesChip`, and of a busy one what its command in flight has
brought FEED_CONFIG1 to, so that it will match when the command has ended. -/
def State.tagInv (s : State) (start : List Byte) : Prop :=
  match s.busy, s.inFlight with
  | true, some f =>
    (chipView s.cfg .feedConfig1 start s.traffic).passive = true →
      midWay s (chipView s.cfg .feedConfig1 start s.traffic).may f
  | _, _ => s.tagMatchesChip start

end Sys2Proof.Machine
end

