-- ==== Sys2Proof/Certificates/Slice0/Obligations.lean ====
section
/-! DEFINITION. The statements for the provers. They are written from the spec's rules: response words by their numbers (R66,
R67), the gate as the table of R140, payloads by their bits (R68). A statement that gives a whole next state gives the frame
with it: what the record update does not name is unchanged. -/

namespace Sys2Proof.Claims

open Sys2Proof.Machine

/-! ### Words the statements use -/

/-- `s` after a command ended: idle, `es` added to the traffic, one response `w` emitted, everything else as in `s`. -/
def answered (s : State) (es : List BusEvent) (w : RespWord) : State :=
  { s with busy := false, inFlight := none, traffic := s.traffic ++ es, responses := s.responses ++ [w] }

/-- `OK` with a payload (R67: code 0). -/
def okWord (p : Payload) : RespWord := (0 : BitVec 4) ++ p

/-- R67, payload 0. -/
def noDataWord : RespWord := 0x1000000000
def busErrorWord : RespWord := 0x2000000000
def pinErrorWord : RespWord := 0x3000000000
def readOnlyWord : RespWord := 0x4000000000
def wrongModeWord : RespWord := 0x8000000000
def illegalWord : RespWord := 0x9000000000

/-- `MemRead` of `r` that brought `b`, and one that failed (R43). -/
def readOk (cfg : Params) (r : ChipReg) (b : Byte) : BusEvent :=
  .txn (.writeRead (devAddr cfg.strap) [frameRd cfg.framing r.addr] 1) (.ok [b])
def readErr (cfg : Params) (r : ChipReg) : BusEvent :=
  .txn (.writeRead (devAddr cfg.strap) [frameRd cfg.framing r.addr] 1) .err

/-- `MemWrite` of `v` to `r` that succeeded, and one that failed (R44). -/
def writeOk (cfg : Params) (r : ChipReg) (v : Byte) : BusEvent :=
  .txn (.write (devAddr cfg.strap) [frameWr cfg.framing r.addr, v]) (.ok [])
def writeErr (cfg : Params) (r : ChipReg) (v : Byte) : BusEvent :=
  .txn (.write (devAddr cfg.strap) [frameWr cfg.framing r.addr, v]) .err

/-- `READ_ONLY(r)` (R3). -/
abbrev writable (cfg : Params) (r : ChipReg) : Prop := r ∉ cfg.readOnly

/-- `GateField` of R147, in the rule's words. -/
abbrev fieldExists (f : Field) (s : State) : Prop :=
  f ∈ [Field.power, .feed, .pos, .filter, .axisEn] ∨ (s.synced = true ∧ s.tagPos = .relative)

/-- The table of R140, in the rule's words. -/
def existsIn (i : Instr) (s : State) : Prop :=
  match i with
  | .init => True
  | .rd _ => True
  | .wr _ _ => True
  | .clrst => True
  | .devid => True
  | .getPower => True
  | .setPower _ => True
  | .getFeed => True
  | .getPos => True
  | .getFilter => True
  | .setFilter _ => True
  | .getAxisEn => True
  | .setAxisEn _ => True
  | .getAxisInv => s.synced = true ∧ s.tagPos = .relative
  | .setAxisInv _ => s.synced = true ∧ s.tagPos = .relative
  | .getAxisSwap => s.synced = true ∧ s.tagPos = .relative
  | .setAxisSwap _ => s.synced = true ∧ s.tagPos = .relative
  | .getScroll => s.synced = true ∧ s.tagPos = .relative
  | .setScroll _ => s.synced = true ∧ s.tagPos = .relative
  | .getTap => s.synced = true ∧ s.tagPos = .relative
  | .setTap _ => s.synced = true ∧ s.tagPos = .relative
  | .getGlide => s.synced = true ∧ s.tagPos = .relative
  | .setGlide _ => s.synced = true ∧ s.tagPos = .relative
  | .getImouse => s.synced = true ∧ s.tagPos = .relative
  | .setImouse _ => s.synced = true ∧ s.tagPos = .relative
  | .enable => s.synced = true ∧ s.tagFeed = .noFeed
  | .disable => s.synced = true ∧ s.tagFeed = .enabled
  | .toabs => s.synced = true ∧ s.tagPos = .relative ∧ s.tagFeed = .enabled
  | .torel => s.synced = true ∧ s.tagPos = .absolute ∧ s.tagFeed = .enabled
  | .reldata => s.synced = true ∧ s.tagPos = .relative ∧ s.tagFeed = .enabled
  | .absdata => s.synced = true ∧ s.tagPos = .absolute ∧ s.tagFeed = .enabled

/-- The byte `Update` writes (R80). -/
def composed (sp : FieldSpec) (c p : Byte) : Byte := (p &&& ~~~sp.mask) ||| ((c <<< sp.shift) &&& sp.mask)

/-- The status code of a response word (R66). -/
def codeOf (w : RespWord) : Nat := w.toNat / 2 ^ 36

/-- What the ready line lets through before the status read (R161): nothing is sampled without a line; with one, `High`. -/
def lineLets (s s0 : State) (es : List BusEvent) : Prop :=
  (s.cfg.hasReadyPin = false ∧ s0 = s ∧ es = []) ∨
  (s.cfg.hasReadyPin = true ∧ s.drawPin = (.high, s0) ∧ es = [.pin .high])

/-- `s` with the note of the transaction under way set aside. -/
def setAside (s : State) : State := { s with inFlight := s.inFlight.map fun f => { f with waiting := none } }

/-- The two data commands. -/
def dataCommands : List Instr := [.reldata, .absdata]

/-- The five transition commands (R146). -/
def transitions : List Instr := [.init, .enable, .disable, .toabs, .torel]

/-- R70's list of illegal words, byte by byte, at the field table of R25. -/
def illegalFields (op a b : Byte) : Prop :=
  op = 0x00 ∨ 0x0E ≤ op.toNat ∨
  (op ∈ [0x01, 0x06, 0x07, 0x08, 0x09, 0x0A, 0x0B, 0x0C, (0x0D : Byte)] ∧ (a ≠ 0 ∨ b ≠ 0)) ∨
  (op ∈ [0x02, (0x04 : Byte)] ∧ b ≠ 0) ∨
  (op ∈ [0x02, (0x03 : Byte)] ∧ a ∉ [0x00, 0x01, 0x02, 0x03, 0x04, 0x05, 0x07, 0x08, 0x09, 0x0A, 0x0B, 0x0C, 0x0D,
    0x12, 0x13, 0x14, 0x15, 0x16, (0x17 : Byte)]) ∨
  (op = 0x04 ∧ 10 < a.toNat) ∨
  (op = 0x05 ∧ (a = 1 ∨ a = 2 ∨ 10 < a.toNat)) ∨
  (op = 0x05 ∧ a ∈ [0, (8 : Byte)] ∧ 2 < b.toNat) ∨
  (op = 0x05 ∧ a ∈ [4, (5 : Byte)] ∧ 3 < b.toNat) ∨
  (op = 0x05 ∧ a ∈ [3, 6, 7, 9, (10 : Byte)] ∧ 1 < b.toNat)

/-- The transport has given no answer (R9, log entry 5). -/
def noAnswer : List BusAnswer := [.stall, .later]

/-- The reset input is not pulsed at this step (R220). -/
abbrev notReset (s : State) : Prop := s.resetPulsed = false

/-- The host presents nothing at this step, and `rest` is what it does after it. -/
def nothingPresented (s : State) (rest : List HostEvent) : Prop :=
  (s.hostIn = [] ∧ rest = []) ∨ s.hostIn = .idle :: rest

/-- `s` after a step took its inputs: `rest` is what the host does next. -/
def inputsTaken (s : State) (rest : List HostEvent) : State := { s with hostIn := rest, resetIn := s.resetIn.tail }

/-- How many transactions, and how many pin samples, are in some traffic. -/
def txnCount (es : List BusEvent) : Nat := es.countP fun e => match e with | .txn _ _ => true | .pin _ => false
def pinCount (es : List BusEvent) : Nat := es.countP fun e => match e with | .txn _ _ => false | .pin _ => true

/-- The event is a transaction whose transport returned `Err`. -/
def isErr : BusEvent → Bool
  | .txn _ .err => true
  | .txn _ (.ok _) => false
  | .txn _ .abandoned => false
  | .pin _ => false

end Sys2Proof.Claims

open Sys2Proof Sys2Proof.Machine Sys2Proof.Claims

/-! ### The command word -/

/-- R60 to R65, R69: the decoder reads back every word the encoder writes, on the 24-bit port and on a byte-wide one. -/
def Obligations.DecodeOfEncodeIsTheInstruction : Prop :=
  ∀ (ft : FieldTable) (i : Instr), i.wf ft = true →
    decodeWith ft (encode i) = .ok i ∧
    decodeBytes ft [opByte (encode i), aByte (encode i), bByte (encode i)] = .ok i

/-- R69: a legal word is the one word of its instruction, is well formed, and passes its row's match and mask. -/
def Obligations.LegalWordIsTheEncodingOfItsInstruction : Prop :=
  ∀ (ft : FieldTable) (w : CmdWord) (i : Instr), decodeWith ft w = .ok i →
    encode i = w ∧ i.wf ft = true ∧ w &&& (opcodeRow i).2 = (opcodeRow i).1

/-- R69: "no word passes the match and mask of two rows": two instructions whose rows a word passes have one mnemonic, that
is one row. -/
def Obligations.NoWordPassesTwoOpcodeRows : Prop :=
  ∀ (w : CmdWord) (i j : Instr), w &&& (opcodeRow i).2 = (opcodeRow i).1 → w &&& (opcodeRow j).2 = (opcodeRow j).1 →
    mnemonic i = mnemonic j

/-- T1: words written out bit by bit from the encoding rules. -/
def Obligations.WrittenOutWordsDecode : Prop :=
  decode 0b00000001_00000000_00000000 = .ok .init ∧
  decode 0b00000010_00010111_00000000 = .ok (.rd .packetByte5) ∧
  decode 0b00000011_00001010_00011110 = .ok (.wr .zIdle 0x1E) ∧
  decode 0b00000100_00001000_00000000 = .ok .getTap ∧
  decode 0b00000101_00000000_00000010 = .ok (.setPower 2) ∧
  decode 0b00001001_00000000_00000000 = .ok .toabs ∧
  decode 0b00001011_00000000_00000000 = .ok .reldata ∧
  decode 0b00001101_00000000_00000000 = .ok .devid

/-- R70: exactly the words of the list are illegal; one that is presented is answered `ILLEGAL_COMMAND` with payload 0, with
no transaction, no sample and no change of state. At the field table of R25. -/
def Obligations.IllegalWordAnswersIllegalCommand : Prop :=
  ∀ (s : State) (w : CmdWord) (rest : List HostEvent), s.busy = false → s.cfg.fields = fieldTable → notReset s →
    s.hostIn = .command w :: rest →
    (illegalFields (opByte w) (aByte w) (bByte w) → step s = .next (answered (inputsTaken s rest) [] illegalWord)) ∧
    (¬ illegalFields (opByte w) (aByte w) (bByte w) → ∃ i, decodeWith s.cfg.fields w = .ok i ∧ i.wf fieldTable = true)

/-! ### The port and the sequencer -/

/-- R13: an idle block runs the command the host presents, and the host's next event is then the one after it; presented
nothing, it does nothing at all (R203, no retry step; R204, no background polling). That a step takes one event of each
input is the model's (log entries 12 and 22). -/
def Obligations.StepRunsTheCommandPresented : Prop :=
  ∀ (s : State) (rest : List HostEvent), s.busy = false → notReset s →
    (∀ (w : CmdWord) (i : Instr), s.hostIn = .command w :: rest → decodeWith s.cfg.fields w = .ok i →
      step s = exec i (inputsTaken s rest)) ∧
    (nothingPresented s rest → step s = .next (inputsTaken s rest))

/-- R66: every accepted command produces exactly one response, of four status bits and 36 payload bits, and `busy` returns
to 0 with it: in the step that accepts it where the transport answers, with `Ok` or `Err`, each of the at most seven
transactions (R6). What holds until the transport has answered is the next statement. -/
def Obligations.AcceptedCommandAnswersExactlyOnce : Prop :=
  ∀ (i : Instr) (s : State) (answers rest : List BusAnswer), s.busy = false → s.busIn = answers ++ rest →
    answers.length = 7 → (∀ a ∈ answers, a ∉ noAnswer) →
    ∃ (t : State) (st : BitVec 4) (p : Payload), exec i s = .next t ∧ t.busy = false ∧ t.inFlight = none ∧
      t.responses = s.responses ++ [st ++ p]

/-- R9, R14, R66: whatever the transport does, a command that has not been answered is waiting for a transaction: the block
is then busy with that command, has answered nothing, and the last answer it drew, from the script or as a free value, is
that there is none yet. The two forms of no answer and the record of the command in flight are the model's (log entry 5). -/
def Obligations.CommandWithoutResponseIsWaiting : Prop :=
  ∀ (i : Instr) (s : State), s.busy = false →
    ∃ t, exec i s = .next t ∧
      ((t.busy = false ∧ t.inFlight = none ∧ ∃ (st : BitVec 4) (p : Payload), t.responses = s.responses ++ [st ++ p]) ∨
       (t.busy = true ∧ t.responses = s.responses ∧ t.inFlight.map (·.cmd) = some i ∧
        ((∃ pre, ∃ a ∈ noAnswer, s.busIn = pre ++ a :: t.busIn ∧ ∀ b ∈ pre, b ∉ noAnswer) ∨
         (t.busIn = [] ∧ (∀ b ∈ s.busIn, b ∉ noAnswer) ∧ s.draws < t.draws ∧ Config.freeBus (t.draws - 1) ∈ noAnswer))))

/-- R14: while `busy = 1` a command presented stays at the port, neither dropped nor answered; presented a command or
nothing, the block goes on with the command in flight and with no other. That going on is `exec` of the command in flight is
the model's (DESIGN CHOICE, log entry 5), and so is that `exec` of any other command leaves a busy block as it is (DESIGN
CHOICE, log entry 12). -/
def Obligations.BusyPortKeepsTheCommandPending : Prop :=
  ∀ (s : State) (rest : List HostEvent) (f : InFlight), s.busy = true → s.inFlight = some f → notReset s →
    ((∃ w later, s.hostIn = .command w :: later ∧ rest = s.hostIn) ∨ nothingPresented s rest →
      step s = exec f.cmd (inputsTaken s rest) ∧
      ∃ t, step s = .next t ∧ t.hostIn = rest ∧
        ((t.busy = true ∧ t.responses = s.responses ∧ t.inFlight.map (·.cmd) = some f.cmd) ∨
         (t.busy = false ∧ ∃ r, t.responses = s.responses ++ [r]))) ∧
    ∀ i, i ≠ f.cmd → exec i s = .next s

/-- R9: a transaction that never returns keeps its command from completing, whatever the command: however many steps the
transport gives no answer, the block stays busy with the command, answers nothing and puts nothing more on the bus, unless
it is reset. The answers that are none yet are the model's form of it (log entry 5). -/
def Obligations.TransactionThatNeverReturnsIsAHang : Prop :=
  ∀ (i : Instr) (s t0 : State) (waits rest : List BusAnswer), s.busy = false → exec i s = .next t0 → t0.busy = true →
    t0.busIn = waits ++ rest → (∀ a ∈ waits, a ∈ noAnswer) → (∀ r ∈ t0.resetIn.take waits.length, r = false) →
    ∃ t, core.run waits.length t0 = .next t ∧ t.busy = true ∧ t.inFlight.map (·.cmd) = some i ∧
      t.responses = s.responses ∧ t.traffic = t0.traffic

/-- R7, R50: a transaction that returns late, or is put on the bus late, is one transaction: a command whose step ended at one
goes on to what it would have been had the transport answered at once; where it ends again before its response, which
transaction is noted as under way may differ and nothing else (log entry 5). -/
def Obligations.WaitingForTheTransportChangesNothingElse : Prop :=
  ∀ (i : Instr) (s t : State) (pre post : List BusAnswer) (a : BusAnswer), s.busy = false → s.busIn = pre ++ a :: post →
    a ∈ noAnswer → (∀ b ∈ pre, b ∉ noAnswer) → exec i s = .next t → t.busy = true →
    ∃ u v, exec i t = .next u ∧ exec i { s with busIn := pre ++ post } = .next v ∧
      setAside u = setAside v ∧ (v.busy = false → u = v)

/-- R6: at most seven transactions and one pin sample for a command, and what was on the bus before stays there. -/
def Obligations.CommandMakesAtMostSevenTransactions : Prop :=
  ∀ (i : Instr) (s : State), s.busy = false →
    ∃ t es, exec i s = .next t ∧ t.traffic = s.traffic ++ es ∧ txnCount es ≤ 7 ∧ pinCount es ≤ 1

/-- R192, R200, R203: the first `Err` ends the command: nothing follows it, it is not tried again, and the response is
`BUS_ERROR` with payload 0; and `BUS_ERROR` has no other cause. -/
def Obligations.FirstBusErrorEndsTheCommand : Prop :=
  ∀ (i : Instr) (s t : State), s.busy = false → exec i s = .next t →
    ∃ es, t.traffic = s.traffic ++ es ∧ (∀ e ∈ es.dropLast, isErr e = false) ∧
      ((∃ e ∈ es.getLast?, isErr e = true) ↔ t.responses = s.responses ++ [busErrorWord]) ∧
      ∀ w, t.responses = s.responses ++ [w] → codeOf w = 2 → w = busErrorWord

/-! ### The gate -/

/-- R140, R198: outside its set of tag states a command is answered `WRONG_MODE` and touches nothing; inside it the gate
does not answer. -/
def Obligations.GateAnswersWrongMode : Prop :=
  ∀ (i : Instr) (s : State), s.busy = false →
    (¬ existsIn i s → exec i s = .next (answered s [] wrongModeWord)) ∧
    (existsIn i s → ∃ t, exec i s = .next t ∧ ∀ w, t.responses = s.responses ++ [w] → codeOf w ≠ 8)

/-! ### The register access engine -/

/-- R82: RD of every register, in every tag state; one transaction always, and nothing of the block is written. -/
def Obligations.RdAnswersTheByteRead : Prop :=
  ∀ (r : ChipReg) (s s1 : State) (b : Byte), s.busy = false →
    decodeWith s.cfg.fields (wordOf 0x02 r.addr 0x00) = .ok (.rd r) ∧
    (s.drawBus = (.ok b, s1) → exec (.rd r) s = .next (answered s1 [readOk s.cfg r b] (okWord (b.setWidth 36)))) ∧
    (s.drawBus = (.err, s1) → exec (.rd r) s = .next (answered s1 [readErr s.cfg r] busErrorWord))

/-- R83: WR of every register: a read-only one is refused without a transaction; FEED_CONFIG1 clears `synced` whether or not
the write succeeds; the tag bits never change. -/
def Obligations.WrWritesTheByteOrRefuses : Prop :=
  ∀ (r : ChipReg) (v : Byte) (s s1 : State) (b : Byte), s.busy = false →
    decodeWith s.cfg.fields (wordOf 0x03 r.addr v) = .ok (.wr r v) ∧
    (¬ writable s.cfg r → exec (.wr r v) s = .next (answered s [] readOnlyWord)) ∧
    (writable s.cfg r → s.drawBus = (.ok b, s1) →
      exec (.wr r v) s = .next (answered { s1 with synced := if r.addr = 0x04 then false else s.synced }
        [writeOk s.cfg r v] (okWord 0))) ∧
    (writable s.cfg r → s.drawBus = (.err, s1) →
      exec (.wr r v) s = .next (answered { s1 with synced := if r.addr = 0x04 then false else s.synced }
        [writeErr s.cfg r v] busErrorWord))

/-- R81, R84: CLRST writes 0x00 to STATUS1, with no read before it. -/
def Obligations.ClrstWritesZeroToStatus1 : Prop :=
  ∀ (s s1 : State) (b : Byte), s.busy = false →
    decodeWith s.cfg.fields 0x060000 = .ok .clrst ∧
    (writable s.cfg .status1 → s.drawBus = (.ok b, s1) →
      exec .clrst s = .next (answered s1 [writeOk s.cfg .status1 0x00] (okWord 0))) ∧
    (writable s.cfg .status1 → s.drawBus = (.err, s1) →
      exec .clrst s = .next (answered s1 [writeErr s.cfg .status1 0x00] busErrorWord)) ∧
    (¬ writable s.cfg .status1 → exec .clrst s = .next (answered s [] readOnlyWord))

/-- R85: DEVID reads FIRMWARE_ID and returns the byte uninterpreted. -/
def Obligations.DevidAnswersTheFirmwareId : Prop :=
  ∀ (s s1 : State) (b : Byte), s.busy = false →
    decodeWith s.cfg.fields 0x0D0000 = .ok .devid ∧
    (s.drawBus = (.ok b, s1) → exec .devid s = .next (answered s1 [readOk s.cfg .firmwareId b] (okWord (b.setWidth 36)))) ∧
    (s.drawBus = (.err, s1) → exec .devid s = .next (answered s1 [readErr s.cfg .firmwareId] busErrorWord))

/-- R42: the framing of the nineteen addresses. With it the numbers it works on: the addresses of R20 one by one, and the two
values of `DEV_ADDR` (R41). -/
def Obligations.MarkedFramesOfTheRegisterMap : Prop :=
  (∀ (r : ChipReg), frameRd .marked r.addr = 0xA0 ||| r.addr ∧ frameRd .marked r.addr = 0xA0 + r.addr ∧
    frameWr .marked r.addr = 0x80 ||| r.addr ∧ frameWr .marked r.addr = 0x80 + r.addr ∧
    frameRd .raw r.addr = r.addr ∧ frameWr .raw r.addr = r.addr ∧
    0xA0 ≤ (frameRd .marked r.addr).toNat ∧ (frameRd .marked r.addr).toNat ≤ 0xB7 ∧
    0x80 ≤ (frameWr .marked r.addr).toNat ∧ (frameWr .marked r.addr).toNat ≤ 0x97) ∧
  ChipReg.addr .firmwareId = 0x00 ∧ ChipReg.addr .firmwareVersion = 0x01 ∧ ChipReg.addr .status1 = 0x02 ∧
  ChipReg.addr .sysConfig1 = 0x03 ∧ ChipReg.addr .feedConfig1 = 0x04 ∧ ChipReg.addr .feedConfig2 = 0x05 ∧
  ChipReg.addr .calConfig1 = 0x07 ∧ ChipReg.addr .ps2AuxControl = 0x08 ∧ ChipReg.addr .sampleRate = 0x09 ∧
  ChipReg.addr .zIdle = 0x0A ∧ ChipReg.addr .zScaler = 0x0B ∧ ChipReg.addr .sleepInterval = 0x0C ∧
  ChipReg.addr .sleepTimer = 0x0D ∧ ChipReg.addr .packetByte0 = 0x12 ∧ ChipReg.addr .packetByte1 = 0x13 ∧
  ChipReg.addr .packetByte2 = 0x14 ∧ ChipReg.addr .packetByte3 = 0x15 ∧ ChipReg.addr .packetByte4 = 0x16 ∧
  ChipReg.addr .packetByte5 = 0x17 ∧
  devAddr .primary = 0x2A ∧ devAddr .secondary = 0x2C

/-! ### Configuration fields -/

/-- R103: GET of each of the eleven fields (GET.POWER, GET.FEED, GET.POS, GET.FILTER, GET.AXIS_EN, GET.AXIS_INV,
GET.AXIS_SWAP, GET.SCROLL, GET.TAP, GET.GLIDE, GET.IMOUSE): `getterOf` names their constructors. -/
def Obligations.GetAnswersTheFieldOfTheByteRead : Prop :=
  ∀ (f : Field) (s s1 : State) (p : Byte), s.busy = false →
    let sp := s.cfg.fields.get f
    let c := (p &&& sp.mask) >>> sp.shift
    decodeWith s.cfg.fields (wordOf 0x04 f.id 0x00) = .ok (getterOf f) ∧
    (¬ fieldExists f s → exec (getterOf f) s = .next (answered s [] wrongModeWord)) ∧
    (fieldExists f s → s.drawBus = (.err, s1) →
      exec (getterOf f) s = .next (answered s1 [readErr s.cfg sp.reg] busErrorWord)) ∧
    (fieldExists f s → s.drawBus = (.ok p, s1) → c ∈ sp.codes →
      exec (getterOf f) s = .next (answered s1 [readOk s.cfg sp.reg p] (okWord (c.setWidth 36)))) ∧
    (fieldExists f s → s.drawBus = (.ok p, s1) → c ∉ sp.codes →
      exec (getterOf f) s = .next (answered s1 [readOk s.cfg sp.reg p] ((5 : BitVec 4) ++ (c.setWidth 36 : Payload))))

/-- R104 to R114 at the field table of R25 and the marked framing: the frame byte and the bits of every getter, by number.
Only POWER and TAP can be `INVALID_DISCRIMINANT`, with payload 3. -/
def Obligations.GettersReadTheBitsOfTheFieldTable : Prop :=
  ∀ (s s1 : State) (p : Byte), s.busy = false → s.cfg.fields = fieldTable → s.cfg.framing = .marked →
    s.synced = true → s.tagPos = .relative → s.drawBus = (.ok p, s1) →
    let r (f : Byte) : BusEvent := .txn (.writeRead (devAddr s.cfg.strap) [f] 1) (.ok [p])
    let one (j : Nat) : RespWord := okWord ((p.extractLsb' j 1).setWidth 36)
    let two (j : Nat) : RespWord := okWord ((p.extractLsb' j 2).setWidth 36)
    let three (j : Nat) : RespWord := if p.extractLsb' j 2 = 3 then 0x5000000003 else two j
    exec .getPower s = .next (answered s1 [r 0xA3] (three 1)) ∧
    exec .getFeed s = .next (answered s1 [r 0xA4] (one 0)) ∧
    exec .getPos s = .next (answered s1 [r 0xA4] (one 1)) ∧
    exec .getFilter s = .next (answered s1 [r 0xA4] (one 2)) ∧
    exec .getAxisEn s = .next (answered s1 [r 0xA4] (two 3)) ∧
    exec .getAxisInv s = .next (answered s1 [r 0xA4] (two 6)) ∧
    exec .getAxisSwap s = .next (answered s1 [r 0xA5] (one 7)) ∧
    exec .getScroll s = .next (answered s1 [r 0xA5] (one 3)) ∧
    exec .getTap s = .next (answered s1 [r 0xA5] (three 1)) ∧
    exec .getGlide s = .next (answered s1 [r 0xA5] (one 4)) ∧
    exec .getImouse s = .next (answered s1 [r 0xA5] (one 0))

/-- R115 and R80: SET of each of the nine fields that have one (SET.POWER, SET.FILTER, SET.AXIS_EN, SET.AXIS_INV,
SET.AXIS_SWAP, SET.SCROLL, SET.TAP, SET.GLIDE, SET.IMOUSE): `setterOf` names their constructors. The byte read stands in
`tmp`; the write is composed from it; `synced` and the tag are never touched. SET.FEED and SET.POS do not exist. -/
def Obligations.SetWritesTheByteComposedFromTmp : Prop :=
  ∀ (f : Field) (c : Byte) (i : Instr) (s s1 s2 : State) (p q : Byte), setterOf f c = some i → s.busy = false →
    let sp := s.cfg.fields.get f
    c ∈ sp.codes →
    decodeWith s.cfg.fields (wordOf 0x05 f.id c) = .ok i ∧
    (∀ g ∈ [Field.feed, .pos], ∀ j, decodeWith s.cfg.fields (wordOf 0x05 g.id c) ≠ .ok j) ∧
    (¬ fieldExists f s → exec i s = .next (answered s [] wrongModeWord)) ∧
    (fieldExists f s → ¬ writable s.cfg sp.reg → exec i s = .next (answered s [] readOnlyWord)) ∧
    (fieldExists f s → writable s.cfg sp.reg → s.drawBus = (.err, s1) →
      exec i s = .next (answered s1 [readErr s.cfg sp.reg] busErrorWord)) ∧
    (fieldExists f s → writable s.cfg sp.reg → s.drawBus = (.ok p, s1) → s1.drawBus = (.err, s2) →
      exec i s = .next (answered { s2 with tmp := p }
        [readOk s.cfg sp.reg p, writeErr s.cfg sp.reg (composed sp c p)] busErrorWord)) ∧
    (fieldExists f s → writable s.cfg sp.reg → s.drawBus = (.ok p, s1) → s1.drawBus = (.ok q, s2) →
      exec i s = .next (answered { s2 with tmp := p }
        [readOk s.cfg sp.reg p, writeOk s.cfg sp.reg (composed sp c p)] (okWord 0)))

/-- R116 to R124 at the field table of R25, the access classes of R20 and the marked framing: the frame bytes and the byte
written of every setter, by number, as the rules print them. -/
def Obligations.SettersWriteTheBytesOfTheFieldTable : Prop :=
  ∀ (c : Byte) (s s1 s2 : State) (p q : Byte), s.busy = false → s.cfg.fields = fieldTable →
    s.cfg.readOnly = [.firmwareId, .firmwareVersion] → s.cfg.framing = .marked →
    s.synced = true → s.tagPos = .relative → s.drawBus = (.ok p, s1) → s1.drawBus = (.ok q, s2) →
    let done (rf wf v : Byte) : State := answered { s2 with tmp := p }
      [.txn (.writeRead (devAddr s.cfg.strap) [rf] 1) (.ok [p]), .txn (.write (devAddr s.cfg.strap) [wf, v]) (.ok [])] 0
    (c.toNat ≤ 2 → exec (.setPower c) s = .next (done 0xA3 0x83 ((p &&& 0xF9) ||| (c <<< 1)))) ∧
    (c.toNat ≤ 1 → exec (.setFilter c) s = .next (done 0xA4 0x84 ((p &&& 0xFB) ||| (c <<< 2)))) ∧
    (c.toNat ≤ 3 → exec (.setAxisEn c) s = .next (done 0xA4 0x84 ((p &&& 0xE7) ||| (c <<< 3)))) ∧
    (c.toNat ≤ 3 → exec (.setAxisInv c) s = .next (done 0xA4 0x84 ((p &&& 0x3F) ||| (c <<< 6)))) ∧
    (c.toNat ≤ 1 → exec (.setAxisSwap c) s = .next (done 0xA5 0x85 ((p &&& 0x7F) ||| (c <<< 7)))) ∧
    (c.toNat ≤ 1 → exec (.setScroll c) s = .next (done 0xA5 0x85 ((p &&& 0xF7) ||| (c <<< 3)))) ∧
    (c.toNat ≤ 2 → exec (.setTap c) s = .next (done 0xA5 0x85 ((p &&& 0xF9) ||| (c <<< 1)))) ∧
    (c.toNat ≤ 1 → exec (.setGlide c) s = .next (done 0xA5 0x85 ((p &&& 0xEF) ||| (c <<< 4)))) ∧
    (c.toNat ≤ 1 → exec (.setImouse c) s = .next (done 0xA5 0x85 ((p &&& 0xFE) ||| c)))

/-- R80's law: for any prior byte, the bits outside the mask stay, the field becomes the code, and the two formulas of the
rule are one. For every field specification that is well formed: `FieldSpec.wf` asks for R23's two invariants, and also that
no bit of a code is lost to the shift, which is the model's condition (DEDUCED, log entry 15) and what the last clause rests
on. -/
def Obligations.UpdateKeepsEveryBitOutsideTheMask : Prop :=
  ∀ (sp : FieldSpec) (c p : Byte), sp.wf = true → c ∈ sp.codes →
    compose sp c p = (p &&& ~~~sp.mask) ||| (c <<< sp.shift) ∧
    compose sp c p &&& ~~~sp.mask = p &&& ~~~sp.mask ∧
    fieldBits sp (compose sp c p) = c

/-- R23, R115: under a table that meets R23, a SET of one field leaves every other field of the register as it was read. -/
def Obligations.UpdateKeepsTheOtherFields : Prop :=
  ∀ (ft : FieldTable) (f g : Field) (c p : Byte), ft.wf = true → f ≠ g → (ft.get f).reg = (ft.get g).reg →
    fieldBits (ft.get g) (compose (ft.get f) c p) = fieldBits (ft.get g) p

/-- R102: the round-trip law, the rejection law, and injectivity, for every field specification that is well formed, and
every field of R25 is (the condition on the shift in `FieldSpec.wf` is the model's, log entry 15). -/
def Obligations.FieldCodecRoundTripsAndRejects : Prop :=
  (∀ f, (fieldTable.get f).wf = true) ∧ ∀ (sp : FieldSpec), sp.wf = true →
    (∀ v ∈ sp.variants.map (·.1), ∃ c, encodeField sp v = some c ∧ decodeField sp c = some v) ∧
    (∀ c, c ∉ sp.codes → decodeField sp c = none) ∧
    (∀ c d v, decodeField sp c = some v → decodeField sp d = some v → c = d)

/-- R101: on which of the 256 bytes the decoding of each field succeeds, at the field table of R25. -/
def Obligations.DecodeFieldSucceedsOnDeclaredCodesOnly : Prop :=
  ∀ (c : Byte),
    (∀ f ∈ [Field.feed, .pos, .filter, .axisSwap, .scroll, .glide, .imouse],
      (decodeField (fieldTable.get f) c).isSome = decide (c.toNat ≤ 1)) ∧
    (∀ f ∈ [Field.axisEn, .axisInv], (decodeField (fieldTable.get f) c).isSome = decide (c.toNat ≤ 3)) ∧
    (∀ f ∈ [Field.power, .tap], (decodeField (fieldTable.get f) c).isSome = decide (c.toNat ≤ 2))

/-- R23: the field table of R25 satisfies the two invariants. -/
def Obligations.FieldTableMasksDoNotOverlap : Prop :=
  (∀ f ∈ allFields, (fieldTable.get f).codes.Nodup) ∧
  (∀ f ∈ allFields, ∀ c ∈ (fieldTable.get f).codes,
    (c <<< (fieldTable.get f).shift) &&& ~~~(fieldTable.get f).mask = 0) ∧
  (∀ f ∈ allFields, ∀ g ∈ allFields, f ≠ g → (fieldTable.get f).reg = (fieldTable.get g).reg →
    (fieldTable.get f).mask &&& (fieldTable.get g).mask = 0)

/-! ### The mode tag -/

/-- R141: INIT in every state, on every outcome of its four transactions, and under a `READ_ONLY` that takes in one of the
registers of FEED and POS. FEED and POS stand where the field table puts them. -/
def Obligations.InitReachesRelativeNoFeed : Prop :=
  ∀ (s s1 s2 s3 s4 : State) (p q p2 q2 : Byte), s.busy = false →
    let fd := s.cfg.fields.feed
    let ps := s.cfg.fields.pos
    decodeWith s.cfg.fields 0x010000 = .ok .init ∧
    (¬ writable s.cfg fd.reg → exec .init s = .next (answered { s with synced := false } [] readOnlyWord)) ∧
    (writable s.cfg fd.reg → s.drawBus = (.err, s1) →
      exec .init s = .next (answered { s1 with synced := false } [readErr s.cfg fd.reg] busErrorWord)) ∧
    (writable s.cfg fd.reg → s.drawBus = (.ok p, s1) → s1.drawBus = (.err, s2) →
      exec .init s = .next (answered { s2 with synced := false, tmp := p }
        [readOk s.cfg fd.reg p, writeErr s.cfg fd.reg (composed fd 0 p)] busErrorWord)) ∧
    (writable s.cfg fd.reg → s.drawBus = (.ok p, s1) → s1.drawBus = (.ok q, s2) → ¬ writable s.cfg ps.reg →
      exec .init s = .next (answered { s2 with synced := false, tmp := p }
        [readOk s.cfg fd.reg p, writeOk s.cfg fd.reg (composed fd 0 p)] readOnlyWord)) ∧
    (writable s.cfg fd.reg → s.drawBus = (.ok p, s1) → s1.drawBus = (.ok q, s2) → writable s.cfg ps.reg →
      s2.drawBus = (.err, s3) →
      exec .init s = .next (answered { s3 with synced := false, tmp := p }
        [readOk s.cfg fd.reg p, writeOk s.cfg fd.reg (composed fd 0 p), readErr s.cfg ps.reg] busErrorWord)) ∧
    (writable s.cfg fd.reg → s.drawBus = (.ok p, s1) → s1.drawBus = (.ok q, s2) → writable s.cfg ps.reg →
      s2.drawBus = (.ok p2, s3) → s3.drawBus = (.err, s4) →
      exec .init s = .next (answered { s4 with synced := false, tmp := p2 }
        [readOk s.cfg fd.reg p, writeOk s.cfg fd.reg (composed fd 0 p), readOk s.cfg ps.reg p2,
         writeErr s.cfg ps.reg (composed ps 0 p2)] busErrorWord)) ∧
    (writable s.cfg fd.reg → s.drawBus = (.ok p, s1) → s1.drawBus = (.ok q, s2) → writable s.cfg ps.reg →
      s2.drawBus = (.ok p2, s3) → s3.drawBus = (.ok q2, s4) →
      exec .init s = .next (answered { s4 with tagPos := .relative, tagFeed := .noFeed, synced := true, tmp := p2 }
        [readOk s.cfg fd.reg p, writeOk s.cfg fd.reg (composed fd 0 p), readOk s.cfg ps.reg p2,
         writeOk s.cfg ps.reg (composed ps 0 p2)] (okWord 0)))

/-- R141: under the passive chip premise, by which INIT's second read brings the byte its first write left, INIT leaves
FEED_CONFIG1 at `p & 0xFC`: the last byte it writes there. At the field table of R25. -/
def Obligations.InitLeavesFeedConfig1MaskedByFC : Prop :=
  ∀ (s s1 s2 s3 s4 : State) (p q q2 : Byte), s.busy = false → s.cfg.fields = fieldTable → writable s.cfg .feedConfig1 →
    s.drawBus = (.ok p, s1) → s1.drawBus = (.ok q, s2) → s2.drawBus = (.ok (p &&& 0xFE), s3) → s3.drawBus = (.ok q2, s4) →
    exec .init s = .next (answered
      { s4 with tagPos := .relative, tagFeed := .noFeed, synced := true, tmp := p &&& 0xFE }
      [readOk s.cfg .feedConfig1 p, writeOk s.cfg .feedConfig1 (p &&& 0xFE), readOk s.cfg .feedConfig1 (p &&& 0xFE),
       writeOk s.cfg .feedConfig1 (p &&& 0xFC)] (okWord 0))

/-- R142: ENABLE: refused outside its gate, and on every outcome of its three transactions inside it. -/
def Obligations.EnableSwitchesTheFeedOn : Prop :=
  ∀ (s s1 s2 s3 : State) (p q q2 : Byte), s.busy = false →
    let fd := s.cfg.fields.feed
    let gate := s.synced = true ∧ s.tagFeed = .noFeed
    decodeWith s.cfg.fields 0x070000 = .ok .enable ∧
    (¬ gate → exec .enable s = .next (answered s [] wrongModeWord)) ∧
    (gate → writable s.cfg fd.reg → s.drawBus = (.err, s1) →
      exec .enable s = .next (answered { s1 with synced := false } [readErr s.cfg fd.reg] busErrorWord)) ∧
    (gate → writable s.cfg fd.reg → s.drawBus = (.ok p, s1) → s1.drawBus = (.err, s2) →
      exec .enable s = .next (answered { s2 with synced := false, tmp := p }
        [readOk s.cfg fd.reg p, writeErr s.cfg fd.reg (composed fd 1 p)] busErrorWord)) ∧
    (gate → writable s.cfg fd.reg → writable s.cfg .status1 → s.drawBus = (.ok p, s1) → s1.drawBus = (.ok q, s2) →
      s2.drawBus = (.err, s3) →
      exec .enable s = .next (answered { s3 with synced := false, tmp := p }
        [readOk s.cfg fd.reg p, writeOk s.cfg fd.reg (composed fd 1 p), writeErr s.cfg .status1 0x00] busErrorWord)) ∧
    (gate → writable s.cfg fd.reg → writable s.cfg .status1 → s.drawBus = (.ok p, s1) → s1.drawBus = (.ok q, s2) →
      s2.drawBus = (.ok q2, s3) →
      exec .enable s = .next (answered { s3 with tagFeed := .enabled, tmp := p }
        [readOk s.cfg fd.reg p, writeOk s.cfg fd.reg (composed fd 1 p), writeOk s.cfg .status1 0x00] (okWord 0)))

/-- R143, R144, R145: DISABLE, TOABS and TOREL: each refused outside its gate, and on every outcome of its two transactions
inside it. No status clear. -/
def Obligations.DisableToabsTorelMoveOneTagBit : Prop :=
  ∀ (s s1 s2 : State) (p q : Byte), s.busy = false →
    ∀ (i : Instr) (w : CmdWord) (gate : Prop) (sp : FieldSpec) (c : Byte) (pos : PosMode) (feed : FeedMode),
    (i = .disable ∧ w = 0x080000 ∧ gate = (s.synced = true ∧ s.tagFeed = .enabled) ∧
      sp = s.cfg.fields.feed ∧ c = 0 ∧ pos = s.tagPos ∧ feed = .noFeed) ∨
    (i = .toabs ∧ w = 0x090000 ∧ gate = (s.synced = true ∧ s.tagPos = .relative ∧ s.tagFeed = .enabled) ∧
      sp = s.cfg.fields.pos ∧ c = 1 ∧ pos = .absolute ∧ feed = .enabled) ∨
    (i = .torel ∧ w = 0x0A0000 ∧ gate = (s.synced = true ∧ s.tagPos = .absolute ∧ s.tagFeed = .enabled) ∧
      sp = s.cfg.fields.pos ∧ c = 0 ∧ pos = .relative ∧ feed = .enabled) →
    decodeWith s.cfg.fields w = .ok i ∧
    (¬ gate → exec i s = .next (answered s [] wrongModeWord)) ∧
    (gate → writable s.cfg sp.reg → s.drawBus = (.err, s1) →
      exec i s = .next (answered { s1 with synced := false } [readErr s.cfg sp.reg] busErrorWord)) ∧
    (gate → writable s.cfg sp.reg → s.drawBus = (.ok p, s1) → s1.drawBus = (.err, s2) →
      exec i s = .next (answered { s2 with synced := false, tmp := p }
        [readOk s.cfg sp.reg p, writeErr s.cfg sp.reg (composed sp c p)] busErrorWord)) ∧
    (gate → writable s.cfg sp.reg → s.drawBus = (.ok p, s1) → s1.drawBus = (.ok q, s2) →
      exec i s = .next (answered { s2 with tagPos := pos, tagFeed := feed, tmp := p }
        [readOk s.cfg sp.reg p, writeOk s.cfg sp.reg (composed sp c p)] (okWord 0)))

/-- R146: a transition that passed its gate and ends with `BUS_ERROR` or `WRITE_TO_READ_ONLY`, wherever it failed, leaves
both tag bits and clears `synced`; one that its gate refuses changes nothing, `synced` included; and only INIT sets `synced`
again. -/
def Obligations.FailedTransitionClearsSynced : Prop :=
  (∀ (i : Instr) (s t : State) (w : RespWord), i ∈ transitions → s.busy = false → existsIn i s → exec i s = .next t →
    t.responses = s.responses ++ [w] → (codeOf w = 2 ∨ codeOf w = 4) →
    t.tagPos = s.tagPos ∧ t.tagFeed = s.tagFeed ∧ t.synced = false) ∧
  (∀ (i : Instr) (s : State), i ∈ transitions → s.busy = false → ¬ existsIn i s →
    exec i s = .next (answered s [] wrongModeWord)) ∧
  (∀ (i : Instr) (s t : State), exec i s = .next t → s.synced = false → t.synced = true → i = .init)

/-- R80, R194, R146: of the other four, a transition whose field lies in a read-only register is refused before the transaction it would make,
read included, and it then leaves `synced = 0`. With the default `READ_ONLY` no field lies in one. -/
def Obligations.ReadOnlyFieldRefusesTheTransition : Prop :=
  ∀ (i : Instr) (s s1 s2 : State) (p q : Byte), s.busy = false → existsIn i s →
    let fd := s.cfg.fields.feed
    let ps := s.cfg.fields.pos
    (i ∈ [Instr.enable, .disable] → ¬ writable s.cfg fd.reg →
      exec i s = .next (answered { s with synced := false } [] readOnlyWord)) ∧
    (i ∈ [Instr.toabs, .torel] → ¬ writable s.cfg ps.reg →
      exec i s = .next (answered { s with synced := false } [] readOnlyWord)) ∧
    (i = .enable → writable s.cfg fd.reg → ¬ writable s.cfg .status1 → s.drawBus = (.ok p, s1) →
      s1.drawBus = (.ok q, s2) →
      exec i s = .next (answered { s2 with synced := false, tmp := p }
        [readOk s.cfg fd.reg p, writeOk s.cfg fd.reg (composed fd 1 p)] readOnlyWord))

/-- R148: the tag moves along the edges of the tag graph and along no other, and with `synced = 1`; no command but INIT
changes both bits. -/
def Obligations.TagMovesOnlyAlongTheTagGraph : Prop :=
  ∀ (i : Instr) (s t : State), s.sound = true → exec i s = .next t →
    (t.tagPos = s.tagPos ∧ t.tagFeed = s.tagFeed) ∨
    (i = .init ∧ t.tagPos = .relative ∧ t.tagFeed = .noFeed ∧ t.synced = true) ∨
    (i = .enable ∧ s.synced = true ∧ s.tagFeed = .noFeed ∧ t.tagPos = s.tagPos ∧ t.tagFeed = .enabled) ∨
    (i = .disable ∧ s.synced = true ∧ s.tagFeed = .enabled ∧ t.tagPos = s.tagPos ∧ t.tagFeed = .noFeed) ∨
    (i = .toabs ∧ s.synced = true ∧ s.tagPos = .relative ∧ s.tagFeed = .enabled ∧ t.tagPos = .absolute ∧
      t.tagFeed = .enabled) ∨
    (i = .torel ∧ s.synced = true ∧ s.tagPos = .absolute ∧ s.tagFeed = .enabled ∧ t.tagPos = .relative ∧
      t.tagFeed = .enabled)

/-- R12: only a step that runs INIT sets `synced`, and one that clears it runs a transition or a WR to FEED_CONFIG1, or is a
reset. -/
def Obligations.OnlyInitSetsSynced : Prop :=
  ∀ (s t : State), step s = .next t →
    let runs (j : Instr) : Prop := notReset s ∧
      ((∃ w rest, s.busy = false ∧ s.hostIn = .command w :: rest ∧ decodeWith s.cfg.fields w = .ok j) ∨
       (∃ f, s.busy = true ∧ s.inFlight = some f ∧ f.cmd = j))
    (s.synced = false → t.synced = true → runs .init) ∧
    (s.synced = true → t.synced = false →
      (∃ j ∈ transitions, runs j) ∨ (∃ v, runs (.wr .feedConfig1 v)) ∨ ¬ notReset s)

/-! ### The packets -/

/-- R170 with R162 and R168: RELDATA, ready, with every transaction answered: three packet reads, the clear, and the sample
by its bits. -/
def Obligations.ReldataAnswersTheSample : Prop :=
  ∀ (s s0 s1 s2 s3 s4 s5 : State) (es : List BusEvent) (st b0 b1 b2 q : Byte), s.busy = false → s.synced = true →
    s.tagPos = .relative → s.tagFeed = .enabled → writable s.cfg .status1 →
    lineLets s s0 es → s0.drawBus = (.ok st, s1) → st &&& s.cfg.drMask ≠ 0 →
    s1.drawBus = (.ok b0, s2) → s2.drawBus = (.ok b1, s3) → s3.drawBus = (.ok b2, s4) →
    let seen := es ++ [readOk s.cfg .status1 st, readOk s.cfg s.cfg.relRegs.b0 b0, readOk s.cfg s.cfg.relRegs.b1 b1,
      readOk s.cfg s.cfg.relRegs.b2 b2]
    let bit (j : Nat) : BitVec 1 := b0.extractLsb' j 1
    let payload : Payload := (0 : BitVec 15) ++ (bit 2 ++ (bit 1 ++ (bit 0 ++ ((bit 5 ++ b2) ++ (bit 4 ++ b1)))))
    (s4.drawBus = (.ok q, s5) →
      exec .reldata s = .next (answered s5 (seen ++ [writeOk s.cfg .status1 0x00]) (okWord payload))) ∧
    (s4.drawBus = (.err, s5) →
      exec .reldata s = .next (answered s5 (seen ++ [writeErr s.cfg .status1 0x00]) busErrorWord))

/-- R171 with R165 and R168, the clamp off: ABSDATA, ready, with every transaction answered: five packet reads, the clear,
and the sample by its bits. -/
def Obligations.AbsdataAnswersTheSample : Prop :=
  ∀ (s s0 s1 s2 s3 s4 s5 s6 s7 : State) (es : List BusEvent) (st bb xl yl hn zb q : Byte), s.busy = false →
    s.synced = true → s.tagPos = .absolute → s.tagFeed = .enabled → writable s.cfg .status1 →
    s.cfg.clampEnable = false → lineLets s s0 es → s0.drawBus = (.ok st, s1) → st &&& s.cfg.drMask ≠ 0 →
    s1.drawBus = (.ok bb, s2) → s2.drawBus = (.ok xl, s3) → s3.drawBus = (.ok yl, s4) → s4.drawBus = (.ok hn, s5) →
    s5.drawBus = (.ok zb, s6) →
    let r := s.cfg.absRegs
    let seen := es ++ [readOk s.cfg .status1 st, readOk s.cfg r.button bb, readOk s.cfg r.xLow xl, readOk s.cfg r.yLow yl,
      readOk s.cfg r.highNibbles hn, readOk s.cfg r.zLevel zb]
    let payload : Payload := (bb.extractLsb' 0 6) ++ ((zb.extractLsb' 0 6) ++
      ((hn.extractLsb' 4 4 ++ yl) ++ (hn.extractLsb' 0 4 ++ xl)))
    (s6.drawBus = (.ok q, s7) →
      exec .absdata s = .next (answered s7 (seen ++ [writeOk s.cfg .status1 0x00]) (okWord payload))) ∧
    (s6.drawBus = (.err, s7) →
      exec .absdata s = .next (answered s7 (seen ++ [writeErr s.cfg .status1 0x00]) busErrorWord))

/-- R22, R27, R28, R161, R168 at the parameters of the integrated block (numbers PRESUMED by the spec, log entry 7; the
strap and the ready line are free, log entry 6): the two data commands by number: STATUS1 read by `0xA2`, the data-ready bit
its bit 2, the packet read by `0xB2`, `0xB3`, `0xB4` or by `0xB2`, `0xB4` to `0xB7`, and STATUS1 cleared by `0x82 0x00`. -/
def Obligations.DataCommandsReadTheirPacketBytes : Prop :=
  ∀ (s s0 s1 s2 s3 s4 s5 s6 s7 : State) (es : List BusEvent) (st a b c d e q : Byte), s.busy = false →
    s.cfg = State.reset.cfg → s.synced = true → s.tagFeed = .enabled → lineLets s s0 es → s0.drawBus = (.ok st, s1) →
    let r (f v : Byte) : BusEvent := .txn (.writeRead (devAddr s.cfg.strap) [f] 1) (.ok [v])
    let clear : BusEvent := .txn (.write (devAddr s.cfg.strap) [0x82, 0x00]) (.ok [])
    let rel : Payload := (0 : BitVec 15) ++ (a.extractLsb' 2 1 ++ (a.extractLsb' 1 1 ++ (a.extractLsb' 0 1 ++
      ((a.extractLsb' 5 1 ++ c) ++ (a.extractLsb' 4 1 ++ b)))))
    let abs : Payload := (a.extractLsb' 0 6) ++ ((e.extractLsb' 0 6) ++
      ((d.extractLsb' 4 4 ++ c) ++ (d.extractLsb' 0 4 ++ b)))
    (st.getLsbD 2 = false →
      (s.tagPos = .relative → exec .reldata s = .next (answered s1 (es ++ [r 0xA2 st]) noDataWord)) ∧
      (s.tagPos = .absolute → exec .absdata s = .next (answered s1 (es ++ [r 0xA2 st]) noDataWord))) ∧
    (st.getLsbD 2 = true → s1.drawBus = (.ok a, s2) → s2.drawBus = (.ok b, s3) → s3.drawBus = (.ok c, s4) →
      (s.tagPos = .relative → s4.drawBus = (.ok q, s5) →
        exec .reldata s = .next (answered s5 (es ++ [r 0xA2 st, r 0xB2 a, r 0xB3 b, r 0xB4 c, clear]) (okWord rel))) ∧
      (s.tagPos = .absolute → s4.drawBus = (.ok d, s5) → s5.drawBus = (.ok e, s6) → s6.drawBus = (.ok q, s7) →
        exec .absdata s = .next (answered s7
          (es ++ [r 0xA2 st, r 0xB2 a, r 0xB4 b, r 0xB5 c, r 0xB6 d, r 0xB7 e, clear]) (okWord abs))))

/-- R170, R171, R200, R203: a data command whose status read or packet read fails ends there with `BUS_ERROR`: the reads
after it and the clear are not made, and neither the tag nor `synced` moves. -/
def Obligations.DataCommandsStopAtTheFirstFailedRead : Prop :=
  ∀ (s s0 s1 s2 s3 s4 s5 s6 : State) (es : List BusEvent) (st a b c d : Byte), s.busy = false → lineLets s s0 es →
    let rd (r : ChipReg) (v : Byte) : BusEvent := readOk s.cfg r v
    let no (r : ChipReg) : BusEvent := readErr s.cfg r
    let rr := s.cfg.relRegs
    let ar := s.cfg.absRegs
    (∀ i ∈ dataCommands, existsIn i s → s0.drawBus = (.err, s1) →
      exec i s = .next (answered s1 (es ++ [no .status1]) busErrorWord)) ∧
    (existsIn .reldata s → s0.drawBus = (.ok st, s1) → st &&& s.cfg.drMask ≠ 0 →
      (s1.drawBus = (.err, s2) →
        exec .reldata s = .next (answered s2 (es ++ [rd .status1 st, no rr.b0]) busErrorWord)) ∧
      (s1.drawBus = (.ok a, s2) → s2.drawBus = (.err, s3) →
        exec .reldata s = .next (answered s3 (es ++ [rd .status1 st, rd rr.b0 a, no rr.b1]) busErrorWord)) ∧
      (s1.drawBus = (.ok a, s2) → s2.drawBus = (.ok b, s3) → s3.drawBus = (.err, s4) →
        exec .reldata s = .next (answered s4 (es ++ [rd .status1 st, rd rr.b0 a, rd rr.b1 b, no rr.b2]) busErrorWord))) ∧
    (existsIn .absdata s → s0.drawBus = (.ok st, s1) → st &&& s.cfg.drMask ≠ 0 →
      (s1.drawBus = (.err, s2) →
        exec .absdata s = .next (answered s2 (es ++ [rd .status1 st, no ar.button]) busErrorWord)) ∧
      (s1.drawBus = (.ok a, s2) → s2.drawBus = (.err, s3) →
        exec .absdata s = .next (answered s3 (es ++ [rd .status1 st, rd ar.button a, no ar.xLow]) busErrorWord)) ∧
      (s1.drawBus = (.ok a, s2) → s2.drawBus = (.ok b, s3) → s3.drawBus = (.err, s4) →
        exec .absdata s = .next (answered s4
          (es ++ [rd .status1 st, rd ar.button a, rd ar.xLow b, no ar.yLow]) busErrorWord)) ∧
      (s1.drawBus = (.ok a, s2) → s2.drawBus = (.ok b, s3) → s3.drawBus = (.ok c, s4) → s4.drawBus = (.err, s5) →
        exec .absdata s = .next (answered s5
          (es ++ [rd .status1 st, rd ar.button a, rd ar.xLow b, rd ar.yLow c, no ar.highNibbles]) busErrorWord)) ∧
      (s1.drawBus = (.ok a, s2) → s2.drawBus = (.ok b, s3) → s3.drawBus = (.ok c, s4) → s4.drawBus = (.ok d, s5) →
        s5.drawBus = (.err, s6) →
        exec .absdata s = .next (answered s6
          (es ++ [rd .status1 st, rd ar.button a, rd ar.xLow b, rd ar.yLow c, rd ar.highNibbles d, no ar.zLevel])
          busErrorWord)))

/-- R168, R194: under a `READ_ONLY` that takes in STATUS1 a ready data command reads its packet, and its clear is then refused
before the transaction: the sample is not delivered. With the default `READ_ONLY` this cannot arise. -/
def Obligations.ReadOnlyStatusWithholdsTheSample : Prop :=
  ∀ (s s0 s1 s2 s3 s4 s5 s6 : State) (es : List BusEvent) (st a b c d e : Byte), s.busy = false →
    ¬ writable s.cfg .status1 → lineLets s s0 es → s0.drawBus = (.ok st, s1) → st &&& s.cfg.drMask ≠ 0 →
    s1.drawBus = (.ok a, s2) → s2.drawBus = (.ok b, s3) → s3.drawBus = (.ok c, s4) →
    let rd (r : ChipReg) (v : Byte) : BusEvent := readOk s.cfg r v
    (existsIn .reldata s → exec .reldata s = .next (answered s4
      (es ++ [rd .status1 st, rd s.cfg.relRegs.b0 a, rd s.cfg.relRegs.b1 b, rd s.cfg.relRegs.b2 c]) readOnlyWord)) ∧
    (existsIn .absdata s → s4.drawBus = (.ok d, s5) → s5.drawBus = (.ok e, s6) →
      exec .absdata s = .next (answered s6
        (es ++ [rd .status1 st, rd s.cfg.absRegs.button a, rd s.cfg.absRegs.xLow b, rd s.cfg.absRegs.yLow c,
          rd s.cfg.absRegs.highNibbles d, rd s.cfg.absRegs.zLevel e]) readOnlyWord))

/-- R169: when the gate is false RELDATA and ABSDATA answer `NO_DATA`: with the line low nothing is on the bus, with the bit
clear the one status read is. -/
def Obligations.NotReadyAnswersNoData : Prop :=
  ∀ (i : Instr) (s s0 s1 : State) (es : List BusEvent) (st : Byte), i ∈ dataCommands → s.busy = false → existsIn i s →
    (s.cfg.hasReadyPin = true → s.drawPin = (.low, s0) →
      exec i s = .next (answered s0 [.pin .low] noDataWord)) ∧
    (lineLets s s0 es → s0.drawBus = (.ok st, s1) → st &&& s.cfg.drMask = 0 →
      exec i s = .next (answered s1 (es ++ [readOk s.cfg .status1 st]) noDataWord))

/-- R193: a pin fault ends RELDATA and ABSDATA with `PIN_ERROR` and no bus transaction, and no other command has one. -/
def Obligations.PinFaultAnswersPinError : Prop :=
  (∀ (i : Instr) (s s0 : State), i ∈ dataCommands → s.busy = false → existsIn i s → s.cfg.hasReadyPin = true →
    s.drawPin = (.fault, s0) → exec i s = .next (answered s0 [.pin .fault] pinErrorWord)) ∧
  (∀ (i : Instr) (s t : State) (w : RespWord), s.busy = false → exec i s = .next t →
    t.responses = s.responses ++ [w] → codeOf w = 3 → i ∈ dataCommands ∧ t.traffic = s.traffic ++ [.pin .fault])

/-- R163: the definition; the value is that of the 9-bit two's complement number `{s, m}`, whose pattern it is, lies in -256
to 255, and differs from the 8-bit reading of `m` exactly when the sign bit and the byte's high bit disagree. -/
def Obligations.SignedDeltaIsNineBitTwosComplement : Prop :=
  ∀ (s : Bool) (m : Byte), (s = true → toInt9 s m = (m.toNat : Int) - 256) ∧ (s = false → toInt9 s m = m.toNat) ∧
    toInt9 s m = (BitVec.ofBool s ++ m).toInt ∧ BitVec.ofInt 9 (toInt9 s m) = BitVec.ofBool s ++ m ∧
    -256 ≤ toInt9 s m ∧ toInt9 s m ≤ 255 ∧ (toInt9 s m ≠ m.toInt ↔ s ≠ m.msb)

/-- R162: each output by its bits, the three bits that have no effect, and where the deltas stand in the payload. -/
def Obligations.RelDecodeReadsFiveBitsOfTheFirstByte : Prop :=
  ∀ (b0 b1 b2 : Byte), relDecode b0 b1 b2 = relDecode (b0 &&& 0x37) b1 b2 ∧
    (relDecode b0 b1 b2).primaryPressed = decide (b0.extractLsb' 0 1 = 1) ∧
    (relDecode b0 b1 b2).secondaryPressed = decide (b0.extractLsb' 1 1 = 1) ∧
    (relDecode b0 b1 b2).auxPressed = decide (b0.extractLsb' 2 1 = 1) ∧
    (relDecode b0 b1 b2).xDelta = (if b0.extractLsb' 4 1 = 1 then (b1.toNat : Int) - 256 else b1.toNat) ∧
    (relDecode b0 b1 b2).yDelta = (if b0.extractLsb' 5 1 = 1 then (b2.toNat : Int) - 256 else b2.toNat) ∧
    (relPayload (relDecode b0 b1 b2)).extractLsb' 0 9 = b0.extractLsb' 4 1 ++ b1 ∧
    (relPayload (relDecode b0 b1 b2)).extractLsb' 9 9 = b0.extractLsb' 5 1 ++ b2

/-- R165, R166: the assembly by bits, and every value of the four numbers is taken. -/
def Obligations.AbsDecodeAssemblesEveryValue : Prop :=
  (∀ (bb xl yl hn zb : Byte), absDecode bb xl yl hn zb =
    ⟨bb.extractLsb' 0 6, hn.extractLsb' 0 4 ++ xl, hn.extractLsb' 4 4 ++ yl, zb.extractLsb' 0 6⟩) ∧
  (∀ (d : AbsoluteData), ∃ bb xl yl hn zb, absDecode bb xl yl hn zb = d)

/-- R167: with the stage on and its bounds in order, X and Y are brought into their ranges, values inside stay, the two forms
of the clamp agree, and Z and the buttons pass; with it off nothing changes. -/
def Obligations.ClampBringsIntoRange : Prop :=
  ∀ (cfg : Params) (d : AbsoluteData), cfg.xLower ≤ cfg.xUpper → cfg.yLower ≤ cfg.yUpper →
    (cfg.clampEnable = false → clamp cfg d = d) ∧
    (cfg.clampEnable = true →
      (clamp cfg d).xPos.toNat = min (max d.xPos.toNat cfg.xLower.toNat) cfg.xUpper.toNat ∧
      (clamp cfg d).xPos.toNat = max (min d.xPos.toNat cfg.xUpper.toNat) cfg.xLower.toNat ∧
      (clamp cfg d).yPos.toNat = min (max d.yPos.toNat cfg.yLower.toNat) cfg.yUpper.toNat ∧
      (clamp cfg d).yPos.toNat = max (min d.yPos.toNat cfg.yUpper.toNat) cfg.yLower.toNat ∧
      (clamp cfg d).zLevel = d.zLevel ∧ (clamp cfg d).buttonState = d.buttonState)

/-- R171 with R167 and R168, the clamp on: ABSDATA, ready, with every transaction answered: the traffic of the clamp off, and
the sample with X and Y brought into their ranges; not delivered if the clear fails. -/
def Obligations.AbsdataAnswersTheClampedSample : Prop :=
  ∀ (s s0 s1 s2 s3 s4 s5 s6 s7 : State) (es : List BusEvent) (st bb xl yl hn zb q : Byte) (x y : BitVec 12),
    s.busy = false → s.synced = true → s.tagPos = .absolute → s.tagFeed = .enabled → writable s.cfg .status1 →
    s.cfg.clampEnable = true → lineLets s s0 es → s0.drawBus = (.ok st, s1) → st &&& s.cfg.drMask ≠ 0 →
    s1.drawBus = (.ok bb, s2) → s2.drawBus = (.ok xl, s3) → s3.drawBus = (.ok yl, s4) → s4.drawBus = (.ok hn, s5) →
    s5.drawBus = (.ok zb, s6) →
    x.toNat = min (max (hn.extractLsb' 0 4 ++ xl : BitVec 12).toNat s.cfg.xLower.toNat) s.cfg.xUpper.toNat →
    y.toNat = min (max (hn.extractLsb' 4 4 ++ yl : BitVec 12).toNat s.cfg.yLower.toNat) s.cfg.yUpper.toNat →
    let r := s.cfg.absRegs
    let seen := es ++ [readOk s.cfg .status1 st, readOk s.cfg r.button bb, readOk s.cfg r.xLow xl, readOk s.cfg r.yLow yl,
      readOk s.cfg r.highNibbles hn, readOk s.cfg r.zLevel zb]
    (s6.drawBus = (.ok q, s7) →
      exec .absdata s = .next (answered s7 (seen ++ [writeOk s.cfg .status1 0x00])
        (okWord ((bb.extractLsb' 0 6) ++ ((zb.extractLsb' 0 6) ++ (y ++ x)))))) ∧
    (s6.drawBus = (.err, s7) →
      exec .absdata s = .next (answered s7 (seen ++ [writeErr s.cfg .status1 0x00]) busErrorWord))

/-- S5 and S6, with the corrected Y of C1. -/
def Obligations.SourceExamplesDecode : Prop :=
  relDecode 0b0010_0001 10 5 = ⟨true, false, false, 10, -251⟩ ∧
  absDecode 0x3F 0x10 0x20 0x34 0x08 = ⟨0x3F, 0x410, 0x320, 8⟩ ∧
  relPayload (relDecode 0x21 0x0A 0x05) = 0x000060A0A ∧
  absPayload (absDecode 0x3F 0x10 0x20 0x34 0x08) = 0xFC8320410

/-! ### Reset -/

/-- R30: the registers after reset. `tmp` is unspecified there and the statement does not name it. -/
def Obligations.ResetStateIsRelativeNoFeedUnsynced : Prop :=
  State.reset.tagPos = .relative ∧ State.reset.tagFeed = .noFeed ∧ State.reset.synced = false ∧
  State.reset.busy = false ∧ State.reset.inFlight = none ∧ State.reset.traffic = [] ∧ State.reset.responses = []

/-- R3, R20, R22, R25, R27, R28: the parameters the block has after reset, by number: the ones the statements over every
`cfg` are read at. The numbers are PRESUMED by the spec (log entry 7); the strap, the ready line and the bounds are free
(log entry 6). -/
def Obligations.ResetParametersAreTheIntegratedBlocks : Prop :=
  let c := State.reset.cfg
  c.fields = fieldTable ∧ c.framing = .marked ∧ c.drMask = 0x04 ∧
  c.readOnly = [.firmwareId, .firmwareVersion] ∧ (∀ r, writable c r ↔ r.addr ≠ 0x00 ∧ r.addr ≠ 0x01) ∧
  c.relRegs.b0.addr = 0x12 ∧ c.relRegs.b1.addr = 0x13 ∧ c.relRegs.b2.addr = 0x14 ∧
  c.absRegs.button.addr = 0x12 ∧ c.absRegs.xLow.addr = 0x14 ∧ c.absRegs.yLow.addr = 0x15 ∧
  c.absRegs.highNibbles.addr = 0x16 ∧ c.absRegs.zLevel.addr = 0x17 ∧
  c.clampEnable = false ∧ c.xLower ≤ c.xUpper ∧ c.yLower ≤ c.yUpper ∧
  devAddr c.strap ∈ [0x2A, (0x2C : BitVec 7)]

/-- R71, with the 0/1 numbering of R10: the four level outputs, in every state, busy or idle. -/
def Obligations.LevelOutputsShowTheRegisters : Prop :=
  ∀ (s : State),
    (s.tagPos = .relative → (levels s).tagPos = 0) ∧ (s.tagPos = .absolute → (levels s).tagPos = 1) ∧
    (s.tagFeed = .noFeed → (levels s).tagFeed = 0) ∧ (s.tagFeed = .enabled → (levels s).tagFeed = 1) ∧
    (s.synced = false → (levels s).synced = 0) ∧ (s.synced = true → (levels s).synced = 1) ∧
    (s.busy = false → (levels s).busy = 0) ∧ (s.busy = true → (levels s).busy = 1)

/-- R220, R221, R222: the reset input in every state, whatever is presented at the port: the registers of R221, nothing
answered, no transaction and no sample made; a transaction that was under way is abandoned with its outcome unknown. `tmp`
is some byte (log entry 3), the record of the abandoned transaction is the model's (log entry 11), and so is that a command
pending at the port stays there (DESIGN CHOICE, log entry 22). -/
def Obligations.ResetInputResetsTheBlock : Prop :=
  ∀ (s : State), ¬ notReset s →
    ∃ (v : Byte) (es : List BusEvent),
      step s = .next { s with
        resetIn := s.resetIn.tail, tagPos := .relative, tagFeed := .noFeed, synced := false, busy := false
        inFlight := none, tmp := v, draws := s.draws + 1, traffic := s.traffic ++ es } ∧
      (s.inFlight = none → es = []) ∧
      (∀ f, s.inFlight = some f → es = f.waiting.toList.map fun t => BusEvent.txn t .abandoned)

/-- R30, R15: "a model must not read it before Update writes it": the byte `tmp` holds when a command is accepted has no
effect on anything the command does; it may only be what `tmp` still holds at the end. -/
def Obligations.TmpAtAcceptanceHasNoEffect : Prop :=
  ∀ (i : Instr) (s : State) (v : Byte), s.busy = false →
    ∃ (t : State) (u : Byte), exec i s = .next t ∧ exec i { s with tmp := v } = .next { t with tmp := u } ∧
      (u = t.tmp ∨ (u = v ∧ t.tmp = s.tmp))

/-! ### Invariants -/

/-- R14, R148: the sequencer agrees with the registers after every step. -/
def Obligations.EveryStepKeepsTheStateSound : Prop :=
  ∀ (s t : State), s.sound = true → step s = .next t → t.sound = true

/-- R67, R68, R196, R197: every response ever emitted is legal: the reserved codes are never produced. -/
def Obligations.EveryStepKeepsResponsesLegal : Prop :=
  ∀ (s t : State), s.responsesLegal = true → step s = .next t → t.responsesLegal = true

/-- R20, R41 to R44, R48, R160, by number (`lawfulTxn`): every transaction ever made is to `0x2A` or `0x2C` as the strap says,
reads one register of the map or writes one that is not read-only, and the line is sampled only if it exists; and the
parameters never change. -/
def Obligations.EveryStepKeepsTrafficLawful : Prop :=
  ∀ (s t : State), s.trafficLawful = true → step s = .next t → t.trafficLawful = true ∧ t.cfg = s.cfg

/-- R11 with its proviso: as long as the chip is passive, so that nothing but this block writes FEED_CONFIG1, every step, of
an idle block and of one that waits for the transport, keeps the tag in agreement with whatever FEED_CONFIG1 may hold:
`tagInv` is in an idle state `tagMatchesChip`, and in a busy one what the command in flight has brought the register to
(`midWay`), from which `tagMatchesChip` follows when it ends. At the field table of R25. -/
def Obligations.TagKeepsMatchingAPassiveChip : Prop :=
  ∀ (s t : State) (start : List Byte), s.cfg.fields = fieldTable → s.tagInv start → step s = .next t →
    t.tagInv start

/-- The invariants hold after reset, whatever the chip then holds. -/
def Obligations.InvariantsHoldAtReset : Prop :=
  State.reset.sound = true ∧ State.reset.responsesLegal = true ∧ State.reset.trafficLawful = true ∧
  ∀ start, State.reset.tagInv start
end

