-- ==== Sys2Proof/Laws/Encoding.lean ====
section
/-! SUPPORT. The small facts of the command word: its three byte fields, the register map both ways, the field ids. -/

namespace Sys2Proof

/-- A bit of a word, by the byte field it lies in (R60). -/
theorem getLsbD_wordOf (op a b : Byte) (i : Nat) :
    (wordOf op a b).getLsbD i =
      if i < 8 then b.getLsbD i else if i - 8 < 8 then a.getLsbD (i - 8) else op.getLsbD (i - 8 - 8) := by
  have h := BitVec.getLsbD_append (x := op ++ a) (y := b) (i := i)
  have h2 := BitVec.getLsbD_append (x := op) (y := a) (i := i - 8)
  rw [← h2]
  exact h

@[simp] theorem opByte_wordOf (op a b : Byte) : opByte (wordOf op a b) = op := by
  ext i hi
  simp [opByte, getLsbD_wordOf, show ¬ 16 + i < 8 by omega, show ¬ 16 + i - 8 < 8 by omega,
    show 16 + i - 8 - 8 = i by omega, hi]

@[simp] theorem aByte_wordOf (op a b : Byte) : aByte (wordOf op a b) = a := by
  ext i hi
  simp [aByte, getLsbD_wordOf, hi]

@[simp] theorem bByte_wordOf (op a b : Byte) : bByte (wordOf op a b) = b := by
  ext i hi
  simp [bByte, getLsbD_wordOf, hi]

/-- A word is its three byte fields (R60). -/
theorem wordOf_bytes (w : CmdWord) : wordOf (opByte w) (aByte w) (bByte w) = w := by
  simp only [opByte, aByte, bByte, wordOf]
  ext i hi
  simp only [BitVec.getElem_append, BitVec.getElem_extractLsb']
  split
  · simp [BitVec.getLsbD_eq_getElem (by omega : i < 24)]
  · split
    · rw [show 8 + (i - 8) = i by omega, BitVec.getLsbD_eq_getElem (by omega)]
    · rw [show 16 + (i - 8 - 8) = i by omega, BitVec.getLsbD_eq_getElem (by omega)]

/-- The register map, both ways (R20, R63). -/
@[simp] theorem regOfAddr_addr (r : ChipReg) : regOfAddr r.addr = some r := by cases r <;> rfl

theorem addr_injective {r q : ChipReg} (h : r.addr = q.addr) : r = q := by
  have := congrArg regOfAddr h
  simpa using this

/-- Every field id names its field's getter (R64). -/
theorem decodeGet_id (f : Field) : decodeGet f.id = .ok (getterOf f) := by cases f <;> rfl

/-- The word of a getter (R72). -/
theorem encode_getterOf (f : Field) : encode (getterOf f) = wordOf 0x04 f.id 0 := by cases f <;> rfl

/-- The word of a setter (R72). -/
theorem encode_setterOf {f : Field} {c : Byte} {i : Instr} (h : setterOf f c = some i) :
    encode i = wordOf 0x05 f.id c := by
  cases f <;> simp [setterOf] at h <;> subst h <;> rfl

end Sys2Proof
end

