-- ==== Sys2Proof/Laws/State.lean ====
section
/-! SUPPORT. For each update of State, what every field holds after it, and how the updates pass the drawing of an answer:
later proofs unfold no record update. -/

namespace Sys2Proof.Machine

@[simp] theorem setTmp_tagPos (s : State) (v : Byte) : (s.setTmp v).tagPos = s.tagPos := rfl
@[simp] theorem setTmp_tagFeed (s : State) (v : Byte) : (s.setTmp v).tagFeed = s.tagFeed := rfl
@[simp] theorem setTmp_synced (s : State) (v : Byte) : (s.setTmp v).synced = s.synced := rfl
@[simp] theorem setTmp_busy (s : State) (v : Byte) : (s.setTmp v).busy = s.busy := rfl
@[simp] theorem setTmp_tmp (s : State) (v : Byte) : (s.setTmp v).tmp = v := rfl
@[simp] theorem setTmp_inFlight (s : State) (v : Byte) : (s.setTmp v).inFlight = s.inFlight := rfl
@[simp] theorem setTmp_cfg (s : State) (v : Byte) : (s.setTmp v).cfg = s.cfg := rfl
@[simp] theorem setTmp_hostIn (s : State) (v : Byte) : (s.setTmp v).hostIn = s.hostIn := rfl
@[simp] theorem setTmp_resetIn (s : State) (v : Byte) : (s.setTmp v).resetIn = s.resetIn := rfl
@[simp] theorem setTmp_busIn (s : State) (v : Byte) : (s.setTmp v).busIn = s.busIn := rfl
@[simp] theorem setTmp_pinIn (s : State) (v : Byte) : (s.setTmp v).pinIn = s.pinIn := rfl
@[simp] theorem setTmp_draws (s : State) (v : Byte) : (s.setTmp v).draws = s.draws := rfl
@[simp] theorem setTmp_responses (s : State) (v : Byte) : (s.setTmp v).responses = s.responses := rfl
@[simp] theorem setTmp_traffic (s : State) (v : Byte) : (s.setTmp v).traffic = s.traffic := rfl

@[simp] theorem assignPos_tagPos (s : State) (p : PosMode) : (s.assign (.pos p)).tagPos = p := rfl
@[simp] theorem assignPos_tagFeed (s : State) (p : PosMode) : (s.assign (.pos p)).tagFeed = s.tagFeed := rfl
@[simp] theorem assignPos_synced (s : State) (p : PosMode) : (s.assign (.pos p)).synced = s.synced := rfl
@[simp] theorem assignPos_busy (s : State) (p : PosMode) : (s.assign (.pos p)).busy = s.busy := rfl
@[simp] theorem assignPos_tmp (s : State) (p : PosMode) : (s.assign (.pos p)).tmp = s.tmp := rfl
@[simp] theorem assignPos_inFlight (s : State) (p : PosMode) : (s.assign (.pos p)).inFlight = s.inFlight := rfl
@[simp] theorem assignPos_cfg (s : State) (p : PosMode) : (s.assign (.pos p)).cfg = s.cfg := rfl
@[simp] theorem assignPos_hostIn (s : State) (p : PosMode) : (s.assign (.pos p)).hostIn = s.hostIn := rfl
@[simp] theorem assignPos_resetIn (s : State) (p : PosMode) : (s.assign (.pos p)).resetIn = s.resetIn := rfl
@[simp] theorem assignPos_busIn (s : State) (p : PosMode) : (s.assign (.pos p)).busIn = s.busIn := rfl
@[simp] theorem assignPos_pinIn (s : State) (p : PosMode) : (s.assign (.pos p)).pinIn = s.pinIn := rfl
@[simp] theorem assignPos_draws (s : State) (p : PosMode) : (s.assign (.pos p)).draws = s.draws := rfl
@[simp] theorem assignPos_responses (s : State) (p : PosMode) : (s.assign (.pos p)).responses = s.responses := rfl
@[simp] theorem assignPos_traffic (s : State) (p : PosMode) : (s.assign (.pos p)).traffic = s.traffic := rfl

@[simp] theorem assignFeed_tagPos (s : State) (f : FeedMode) : (s.assign (.feed f)).tagPos = s.tagPos := rfl
@[simp] theorem assignFeed_tagFeed (s : State) (f : FeedMode) : (s.assign (.feed f)).tagFeed = f := rfl
@[simp] theorem assignFeed_synced (s : State) (f : FeedMode) : (s.assign (.feed f)).synced = s.synced := rfl
@[simp] theorem assignFeed_busy (s : State) (f : FeedMode) : (s.assign (.feed f)).busy = s.busy := rfl
@[simp] theorem assignFeed_tmp (s : State) (f : FeedMode) : (s.assign (.feed f)).tmp = s.tmp := rfl
@[simp] theorem assignFeed_inFlight (s : State) (f : FeedMode) : (s.assign (.feed f)).inFlight = s.inFlight := rfl
@[simp] theorem assignFeed_cfg (s : State) (f : FeedMode) : (s.assign (.feed f)).cfg = s.cfg := rfl
@[simp] theorem assignFeed_hostIn (s : State) (f : FeedMode) : (s.assign (.feed f)).hostIn = s.hostIn := rfl
@[simp] theorem assignFeed_resetIn (s : State) (f : FeedMode) : (s.assign (.feed f)).resetIn = s.resetIn := rfl
@[simp] theorem assignFeed_busIn (s : State) (f : FeedMode) : (s.assign (.feed f)).busIn = s.busIn := rfl
@[simp] theorem assignFeed_pinIn (s : State) (f : FeedMode) : (s.assign (.feed f)).pinIn = s.pinIn := rfl
@[simp] theorem assignFeed_draws (s : State) (f : FeedMode) : (s.assign (.feed f)).draws = s.draws := rfl
@[simp] theorem assignFeed_responses (s : State) (f : FeedMode) : (s.assign (.feed f)).responses = s.responses := rfl
@[simp] theorem assignFeed_traffic (s : State) (f : FeedMode) : (s.assign (.feed f)).traffic = s.traffic := rfl

@[simp] theorem assignSynced_tagPos (s : State) (b : Bool) : (s.assign (.synced b)).tagPos = s.tagPos := rfl
@[simp] theorem assignSynced_tagFeed (s : State) (b : Bool) : (s.assign (.synced b)).tagFeed = s.tagFeed := rfl
@[simp] theorem assignSynced_synced (s : State) (b : Bool) : (s.assign (.synced b)).synced = b := rfl
@[simp] theorem assignSynced_busy (s : State) (b : Bool) : (s.assign (.synced b)).busy = s.busy := rfl
@[simp] theorem assignSynced_tmp (s : State) (b : Bool) : (s.assign (.synced b)).tmp = s.tmp := rfl
@[simp] theorem assignSynced_inFlight (s : State) (b : Bool) : (s.assign (.synced b)).inFlight = s.inFlight := rfl
@[simp] theorem assignSynced_cfg (s : State) (b : Bool) : (s.assign (.synced b)).cfg = s.cfg := rfl
@[simp] theorem assignSynced_hostIn (s : State) (b : Bool) : (s.assign (.synced b)).hostIn = s.hostIn := rfl
@[simp] theorem assignSynced_resetIn (s : State) (b : Bool) : (s.assign (.synced b)).resetIn = s.resetIn := rfl
@[simp] theorem assignSynced_busIn (s : State) (b : Bool) : (s.assign (.synced b)).busIn = s.busIn := rfl
@[simp] theorem assignSynced_pinIn (s : State) (b : Bool) : (s.assign (.synced b)).pinIn = s.pinIn := rfl
@[simp] theorem assignSynced_draws (s : State) (b : Bool) : (s.assign (.synced b)).draws = s.draws := rfl
@[simp] theorem assignSynced_responses (s : State) (b : Bool) : (s.assign (.synced b)).responses = s.responses := rfl
@[simp] theorem assignSynced_traffic (s : State) (b : Bool) : (s.assign (.synced b)).traffic = s.traffic := rfl

@[simp] theorem assign_busy (s : State) (a : Assign) : (s.assign a).busy = s.busy := by cases a <;> rfl
@[simp] theorem assign_tmp (s : State) (a : Assign) : (s.assign a).tmp = s.tmp := by cases a <;> rfl
@[simp] theorem assign_inFlight (s : State) (a : Assign) : (s.assign a).inFlight = s.inFlight := by cases a <;> rfl
@[simp] theorem assign_cfg (s : State) (a : Assign) : (s.assign a).cfg = s.cfg := by cases a <;> rfl
@[simp] theorem assign_hostIn (s : State) (a : Assign) : (s.assign a).hostIn = s.hostIn := by cases a <;> rfl
@[simp] theorem assign_resetIn (s : State) (a : Assign) : (s.assign a).resetIn = s.resetIn := by cases a <;> rfl
@[simp] theorem assign_busIn (s : State) (a : Assign) : (s.assign a).busIn = s.busIn := by cases a <;> rfl
@[simp] theorem assign_pinIn (s : State) (a : Assign) : (s.assign a).pinIn = s.pinIn := by cases a <;> rfl
@[simp] theorem assign_draws (s : State) (a : Assign) : (s.assign a).draws = s.draws := by cases a <;> rfl
@[simp] theorem assign_responses (s : State) (a : Assign) : (s.assign a).responses = s.responses := by cases a <;> rfl
@[simp] theorem assign_traffic (s : State) (a : Assign) : (s.assign a).traffic = s.traffic := by cases a <;> rfl

@[simp] theorem record_tagPos (s : State) (e : BusEvent) : (s.record e).tagPos = s.tagPos := rfl
@[simp] theorem record_tagFeed (s : State) (e : BusEvent) : (s.record e).tagFeed = s.tagFeed := rfl
@[simp] theorem record_synced (s : State) (e : BusEvent) : (s.record e).synced = s.synced := rfl
@[simp] theorem record_busy (s : State) (e : BusEvent) : (s.record e).busy = s.busy := rfl
@[simp] theorem record_tmp (s : State) (e : BusEvent) : (s.record e).tmp = s.tmp := rfl
@[simp] theorem record_inFlight (s : State) (e : BusEvent) : (s.record e).inFlight = s.inFlight := rfl
@[simp] theorem record_cfg (s : State) (e : BusEvent) : (s.record e).cfg = s.cfg := rfl
@[simp] theorem record_hostIn (s : State) (e : BusEvent) : (s.record e).hostIn = s.hostIn := rfl
@[simp] theorem record_resetIn (s : State) (e : BusEvent) : (s.record e).resetIn = s.resetIn := rfl
@[simp] theorem record_busIn (s : State) (e : BusEvent) : (s.record e).busIn = s.busIn := rfl
@[simp] theorem record_pinIn (s : State) (e : BusEvent) : (s.record e).pinIn = s.pinIn := rfl
@[simp] theorem record_draws (s : State) (e : BusEvent) : (s.record e).draws = s.draws := rfl
@[simp] theorem record_responses (s : State) (e : BusEvent) : (s.record e).responses = s.responses := rfl
@[simp] theorem record_traffic (s : State) (e : BusEvent) : (s.record e).traffic = s.traffic ++ [e] := rfl

@[simp] theorem remember_tagPos (s : State) (g : Got) : (s.remember g).tagPos = s.tagPos := rfl
@[simp] theorem remember_tagFeed (s : State) (g : Got) : (s.remember g).tagFeed = s.tagFeed := rfl
@[simp] theorem remember_synced (s : State) (g : Got) : (s.remember g).synced = s.synced := rfl
@[simp] theorem remember_busy (s : State) (g : Got) : (s.remember g).busy = s.busy := rfl
@[simp] theorem remember_tmp (s : State) (g : Got) : (s.remember g).tmp = s.tmp := rfl
@[simp] theorem remember_inFlight (s : State) (g : Got) : (s.remember g).inFlight = s.inFlight.map fun f => { f with got := f.got ++ [g], waiting := none } := rfl
@[simp] theorem remember_cfg (s : State) (g : Got) : (s.remember g).cfg = s.cfg := rfl
@[simp] theorem remember_hostIn (s : State) (g : Got) : (s.remember g).hostIn = s.hostIn := rfl
@[simp] theorem remember_resetIn (s : State) (g : Got) : (s.remember g).resetIn = s.resetIn := rfl
@[simp] theorem remember_busIn (s : State) (g : Got) : (s.remember g).busIn = s.busIn := rfl
@[simp] theorem remember_pinIn (s : State) (g : Got) : (s.remember g).pinIn = s.pinIn := rfl
@[simp] theorem remember_draws (s : State) (g : Got) : (s.remember g).draws = s.draws := rfl
@[simp] theorem remember_responses (s : State) (g : Got) : (s.remember g).responses = s.responses := rfl
@[simp] theorem remember_traffic (s : State) (g : Got) : (s.remember g).traffic = s.traffic := rfl

@[simp] theorem waitFor_tagPos (s : State) (t : Txn) : (s.waitFor t).tagPos = s.tagPos := rfl
@[simp] theorem waitFor_tagFeed (s : State) (t : Txn) : (s.waitFor t).tagFeed = s.tagFeed := rfl
@[simp] theorem waitFor_synced (s : State) (t : Txn) : (s.waitFor t).synced = s.synced := rfl
@[simp] theorem waitFor_busy (s : State) (t : Txn) : (s.waitFor t).busy = s.busy := rfl
@[simp] theorem waitFor_tmp (s : State) (t : Txn) : (s.waitFor t).tmp = s.tmp := rfl
@[simp] theorem waitFor_inFlight (s : State) (t : Txn) : (s.waitFor t).inFlight = s.inFlight.map fun f => { f with waiting := some t } := rfl
@[simp] theorem waitFor_cfg (s : State) (t : Txn) : (s.waitFor t).cfg = s.cfg := rfl
@[simp] theorem waitFor_hostIn (s : State) (t : Txn) : (s.waitFor t).hostIn = s.hostIn := rfl
@[simp] theorem waitFor_resetIn (s : State) (t : Txn) : (s.waitFor t).resetIn = s.resetIn := rfl
@[simp] theorem waitFor_busIn (s : State) (t : Txn) : (s.waitFor t).busIn = s.busIn := rfl
@[simp] theorem waitFor_pinIn (s : State) (t : Txn) : (s.waitFor t).pinIn = s.pinIn := rfl
@[simp] theorem waitFor_draws (s : State) (t : Txn) : (s.waitFor t).draws = s.draws := rfl
@[simp] theorem waitFor_responses (s : State) (t : Txn) : (s.waitFor t).responses = s.responses := rfl
@[simp] theorem waitFor_traffic (s : State) (t : Txn) : (s.waitFor t).traffic = s.traffic := rfl

@[simp] theorem accept_tagPos (s : State) (i : Instr) : (s.accept i).tagPos = s.tagPos := rfl
@[simp] theorem accept_tagFeed (s : State) (i : Instr) : (s.accept i).tagFeed = s.tagFeed := rfl
@[simp] theorem accept_synced (s : State) (i : Instr) : (s.accept i).synced = s.synced := rfl
@[simp] theorem accept_busy (s : State) (i : Instr) : (s.accept i).busy = true := rfl
@[simp] theorem accept_tmp (s : State) (i : Instr) : (s.accept i).tmp = s.tmp := rfl
@[simp] theorem accept_inFlight (s : State) (i : Instr) : (s.accept i).inFlight = some ⟨i, [], none⟩ := rfl
@[simp] theorem accept_cfg (s : State) (i : Instr) : (s.accept i).cfg = s.cfg := rfl
@[simp] theorem accept_hostIn (s : State) (i : Instr) : (s.accept i).hostIn = s.hostIn := rfl
@[simp] theorem accept_resetIn (s : State) (i : Instr) : (s.accept i).resetIn = s.resetIn := rfl
@[simp] theorem accept_busIn (s : State) (i : Instr) : (s.accept i).busIn = s.busIn := rfl
@[simp] theorem accept_pinIn (s : State) (i : Instr) : (s.accept i).pinIn = s.pinIn := rfl
@[simp] theorem accept_draws (s : State) (i : Instr) : (s.accept i).draws = s.draws := rfl
@[simp] theorem accept_responses (s : State) (i : Instr) : (s.accept i).responses = s.responses := rfl
@[simp] theorem accept_traffic (s : State) (i : Instr) : (s.accept i).traffic = s.traffic := rfl

@[simp] theorem finish_tagPos (s : State) (st : Status) (p : Payload) : (s.finish st p).tagPos = s.tagPos := rfl
@[simp] theorem finish_tagFeed (s : State) (st : Status) (p : Payload) : (s.finish st p).tagFeed = s.tagFeed := rfl
@[simp] theorem finish_synced (s : State) (st : Status) (p : Payload) : (s.finish st p).synced = s.synced := rfl
@[simp] theorem finish_busy (s : State) (st : Status) (p : Payload) : (s.finish st p).busy = false := rfl
@[simp] theorem finish_tmp (s : State) (st : Status) (p : Payload) : (s.finish st p).tmp = s.tmp := rfl
@[simp] theorem finish_inFlight (s : State) (st : Status) (p : Payload) : (s.finish st p).inFlight = none := rfl
@[simp] theorem finish_cfg (s : State) (st : Status) (p : Payload) : (s.finish st p).cfg = s.cfg := rfl
@[simp] theorem finish_hostIn (s : State) (st : Status) (p : Payload) : (s.finish st p).hostIn = s.hostIn := rfl
@[simp] theorem finish_resetIn (s : State) (st : Status) (p : Payload) : (s.finish st p).resetIn = s.resetIn := rfl
@[simp] theorem finish_busIn (s : State) (st : Status) (p : Payload) : (s.finish st p).busIn = s.busIn := rfl
@[simp] theorem finish_pinIn (s : State) (st : Status) (p : Payload) : (s.finish st p).pinIn = s.pinIn := rfl
@[simp] theorem finish_draws (s : State) (st : Status) (p : Payload) : (s.finish st p).draws = s.draws := rfl
@[simp] theorem finish_responses (s : State) (st : Status) (p : Payload) : (s.finish st p).responses = s.responses ++ [respWord st p] := rfl
@[simp] theorem finish_traffic (s : State) (st : Status) (p : Payload) : (s.finish st p).traffic = s.traffic := rfl

@[simp] theorem withHostIn_tagPos (s : State) (h : List HostEvent) : (s.withHostIn h).tagPos = s.tagPos := rfl
@[simp] theorem withHostIn_tagFeed (s : State) (h : List HostEvent) : (s.withHostIn h).tagFeed = s.tagFeed := rfl
@[simp] theorem withHostIn_synced (s : State) (h : List HostEvent) : (s.withHostIn h).synced = s.synced := rfl
@[simp] theorem withHostIn_busy (s : State) (h : List HostEvent) : (s.withHostIn h).busy = s.busy := rfl
@[simp] theorem withHostIn_tmp (s : State) (h : List HostEvent) : (s.withHostIn h).tmp = s.tmp := rfl
@[simp] theorem withHostIn_inFlight (s : State) (h : List HostEvent) : (s.withHostIn h).inFlight = s.inFlight := rfl
@[simp] theorem withHostIn_cfg (s : State) (h : List HostEvent) : (s.withHostIn h).cfg = s.cfg := rfl
@[simp] theorem withHostIn_hostIn (s : State) (h : List HostEvent) : (s.withHostIn h).hostIn = h := rfl
@[simp] theorem withHostIn_resetIn (s : State) (h : List HostEvent) : (s.withHostIn h).resetIn = s.resetIn := rfl
@[simp] theorem withHostIn_busIn (s : State) (h : List HostEvent) : (s.withHostIn h).busIn = s.busIn := rfl
@[simp] theorem withHostIn_pinIn (s : State) (h : List HostEvent) : (s.withHostIn h).pinIn = s.pinIn := rfl
@[simp] theorem withHostIn_draws (s : State) (h : List HostEvent) : (s.withHostIn h).draws = s.draws := rfl
@[simp] theorem withHostIn_responses (s : State) (h : List HostEvent) : (s.withHostIn h).responses = s.responses := rfl
@[simp] theorem withHostIn_traffic (s : State) (h : List HostEvent) : (s.withHostIn h).traffic = s.traffic := rfl

@[simp] theorem withResetIn_tagPos (s : State) (r : List Bool) : (s.withResetIn r).tagPos = s.tagPos := rfl
@[simp] theorem withResetIn_tagFeed (s : State) (r : List Bool) : (s.withResetIn r).tagFeed = s.tagFeed := rfl
@[simp] theorem withResetIn_synced (s : State) (r : List Bool) : (s.withResetIn r).synced = s.synced := rfl
@[simp] theorem withResetIn_busy (s : State) (r : List Bool) : (s.withResetIn r).busy = s.busy := rfl
@[simp] theorem withResetIn_tmp (s : State) (r : List Bool) : (s.withResetIn r).tmp = s.tmp := rfl
@[simp] theorem withResetIn_inFlight (s : State) (r : List Bool) : (s.withResetIn r).inFlight = s.inFlight := rfl
@[simp] theorem withResetIn_cfg (s : State) (r : List Bool) : (s.withResetIn r).cfg = s.cfg := rfl
@[simp] theorem withResetIn_hostIn (s : State) (r : List Bool) : (s.withResetIn r).hostIn = s.hostIn := rfl
@[simp] theorem withResetIn_resetIn (s : State) (r : List Bool) : (s.withResetIn r).resetIn = r := rfl
@[simp] theorem withResetIn_busIn (s : State) (r : List Bool) : (s.withResetIn r).busIn = s.busIn := rfl
@[simp] theorem withResetIn_pinIn (s : State) (r : List Bool) : (s.withResetIn r).pinIn = s.pinIn := rfl
@[simp] theorem withResetIn_draws (s : State) (r : List Bool) : (s.withResetIn r).draws = s.draws := rfl
@[simp] theorem withResetIn_responses (s : State) (r : List Bool) : (s.withResetIn r).responses = s.responses := rfl
@[simp] theorem withResetIn_traffic (s : State) (r : List Bool) : (s.withResetIn r).traffic = s.traffic := rfl

@[simp] theorem raiseError_tagPos (s : State) (tr : Bool) (e : Status) (info : Payload) : (s.raiseError tr e info).tagPos = s.tagPos := by
  cases h : (tr && desyncs e) <;> simp [State.raiseError, h]
@[simp] theorem raiseError_tagFeed (s : State) (tr : Bool) (e : Status) (info : Payload) : (s.raiseError tr e info).tagFeed = s.tagFeed := by
  cases h : (tr && desyncs e) <;> simp [State.raiseError, h]
@[simp] theorem raiseError_synced (s : State) (tr : Bool) (e : Status) (info : Payload) : (s.raiseError tr e info).synced = (s.synced && !(tr && desyncs e)) := by
  cases h : (tr && desyncs e) <;> simp [State.raiseError, h]
@[simp] theorem raiseError_busy (s : State) (tr : Bool) (e : Status) (info : Payload) : (s.raiseError tr e info).busy = false := by
  cases h : (tr && desyncs e) <;> simp [State.raiseError, h]
@[simp] theorem raiseError_tmp (s : State) (tr : Bool) (e : Status) (info : Payload) : (s.raiseError tr e info).tmp = s.tmp := by
  cases h : (tr && desyncs e) <;> simp [State.raiseError, h]
@[simp] theorem raiseError_inFlight (s : State) (tr : Bool) (e : Status) (info : Payload) : (s.raiseError tr e info).inFlight = none := by
  cases h : (tr && desyncs e) <;> simp [State.raiseError, h]
@[simp] theorem raiseError_cfg (s : State) (tr : Bool) (e : Status) (info : Payload) : (s.raiseError tr e info).cfg = s.cfg := by
  cases h : (tr && desyncs e) <;> simp [State.raiseError, h]
@[simp] theorem raiseError_hostIn (s : State) (tr : Bool) (e : Status) (info : Payload) : (s.raiseError tr e info).hostIn = s.hostIn := by
  cases h : (tr && desyncs e) <;> simp [State.raiseError, h]
@[simp] theorem raiseError_resetIn (s : State) (tr : Bool) (e : Status) (info : Payload) : (s.raiseError tr e info).resetIn = s.resetIn := by
  cases h : (tr && desyncs e) <;> simp [State.raiseError, h]
@[simp] theorem raiseError_busIn (s : State) (tr : Bool) (e : Status) (info : Payload) : (s.raiseError tr e info).busIn = s.busIn := by
  cases h : (tr && desyncs e) <;> simp [State.raiseError, h]
@[simp] theorem raiseError_pinIn (s : State) (tr : Bool) (e : Status) (info : Payload) : (s.raiseError tr e info).pinIn = s.pinIn := by
  cases h : (tr && desyncs e) <;> simp [State.raiseError, h]
@[simp] theorem raiseError_draws (s : State) (tr : Bool) (e : Status) (info : Payload) : (s.raiseError tr e info).draws = s.draws := by
  cases h : (tr && desyncs e) <;> simp [State.raiseError, h]
@[simp] theorem raiseError_responses (s : State) (tr : Bool) (e : Status) (info : Payload) : (s.raiseError tr e info).responses = s.responses ++ [respWord e info] := by
  cases h : (tr && desyncs e) <;> simp [State.raiseError, h]
@[simp] theorem raiseError_traffic (s : State) (tr : Bool) (e : Status) (info : Payload) : (s.raiseError tr e info).traffic = s.traffic := by
  cases h : (tr && desyncs e) <;> simp [State.raiseError, h]

@[simp] theorem drawBus_tagPos (s : State) : s.drawBus.2.tagPos = s.tagPos := by
  unfold State.drawBus; split <;> simp_all
@[simp] theorem drawBus_tagFeed (s : State) : s.drawBus.2.tagFeed = s.tagFeed := by
  unfold State.drawBus; split <;> simp_all
@[simp] theorem drawBus_synced (s : State) : s.drawBus.2.synced = s.synced := by
  unfold State.drawBus; split <;> simp_all
@[simp] theorem drawBus_busy (s : State) : s.drawBus.2.busy = s.busy := by
  unfold State.drawBus; split <;> simp_all
@[simp] theorem drawBus_tmp (s : State) : s.drawBus.2.tmp = s.tmp := by
  unfold State.drawBus; split <;> simp_all
@[simp] theorem drawBus_inFlight (s : State) : s.drawBus.2.inFlight = s.inFlight := by
  unfold State.drawBus; split <;> simp_all
@[simp] theorem drawBus_cfg (s : State) : s.drawBus.2.cfg = s.cfg := by
  unfold State.drawBus; split <;> simp_all
@[simp] theorem drawBus_hostIn (s : State) : s.drawBus.2.hostIn = s.hostIn := by
  unfold State.drawBus; split <;> simp_all
@[simp] theorem drawBus_resetIn (s : State) : s.drawBus.2.resetIn = s.resetIn := by
  unfold State.drawBus; split <;> simp_all
@[simp] theorem drawBus_busIn (s : State) : s.drawBus.2.busIn = s.busIn.tail := by
  unfold State.drawBus; split <;> simp_all
@[simp] theorem drawBus_pinIn (s : State) : s.drawBus.2.pinIn = s.pinIn := by
  unfold State.drawBus; split <;> simp_all
@[simp] theorem drawBus_responses (s : State) : s.drawBus.2.responses = s.responses := by
  unfold State.drawBus; split <;> simp_all
@[simp] theorem drawBus_traffic (s : State) : s.drawBus.2.traffic = s.traffic := by
  unfold State.drawBus; split <;> simp_all

@[simp] theorem drawPin_tagPos (s : State) : s.drawPin.2.tagPos = s.tagPos := by
  unfold State.drawPin; split <;> simp_all
@[simp] theorem drawPin_tagFeed (s : State) : s.drawPin.2.tagFeed = s.tagFeed := by
  unfold State.drawPin; split <;> simp_all
@[simp] theorem drawPin_synced (s : State) : s.drawPin.2.synced = s.synced := by
  unfold State.drawPin; split <;> simp_all
@[simp] theorem drawPin_busy (s : State) : s.drawPin.2.busy = s.busy := by
  unfold State.drawPin; split <;> simp_all
@[simp] theorem drawPin_tmp (s : State) : s.drawPin.2.tmp = s.tmp := by
  unfold State.drawPin; split <;> simp_all
@[simp] theorem drawPin_inFlight (s : State) : s.drawPin.2.inFlight = s.inFlight := by
  unfold State.drawPin; split <;> simp_all
@[simp] theorem drawPin_cfg (s : State) : s.drawPin.2.cfg = s.cfg := by
  unfold State.drawPin; split <;> simp_all
@[simp] theorem drawPin_hostIn (s : State) : s.drawPin.2.hostIn = s.hostIn := by
  unfold State.drawPin; split <;> simp_all
@[simp] theorem drawPin_resetIn (s : State) : s.drawPin.2.resetIn = s.resetIn := by
  unfold State.drawPin; split <;> simp_all
@[simp] theorem drawPin_busIn (s : State) : s.drawPin.2.busIn = s.busIn := by
  unfold State.drawPin; split <;> simp_all
@[simp] theorem drawPin_pinIn (s : State) : s.drawPin.2.pinIn = s.pinIn.tail := by
  unfold State.drawPin; split <;> simp_all
@[simp] theorem drawPin_responses (s : State) : s.drawPin.2.responses = s.responses := by
  unfold State.drawPin; split <;> simp_all
@[simp] theorem drawPin_traffic (s : State) : s.drawPin.2.traffic = s.traffic := by
  unfold State.drawPin; split <;> simp_all

@[simp] theorem blockReset_tagPos (s : State) : (blockReset s).tagPos = .relative := rfl
@[simp] theorem blockReset_tagFeed (s : State) : (blockReset s).tagFeed = .noFeed := rfl
@[simp] theorem blockReset_synced (s : State) : (blockReset s).synced = false := rfl
@[simp] theorem blockReset_busy (s : State) : (blockReset s).busy = false := rfl
@[simp] theorem blockReset_tmp (s : State) : (blockReset s).tmp = Config.freeTmp s.draws := rfl
@[simp] theorem blockReset_inFlight (s : State) : (blockReset s).inFlight = none := rfl
@[simp] theorem blockReset_cfg (s : State) : (blockReset s).cfg = s.cfg := rfl
@[simp] theorem blockReset_hostIn (s : State) : (blockReset s).hostIn = s.hostIn := rfl
@[simp] theorem blockReset_resetIn (s : State) : (blockReset s).resetIn = s.resetIn := rfl
@[simp] theorem blockReset_busIn (s : State) : (blockReset s).busIn = s.busIn := rfl
@[simp] theorem blockReset_pinIn (s : State) : (blockReset s).pinIn = s.pinIn := rfl
@[simp] theorem blockReset_draws (s : State) : (blockReset s).draws = s.draws + 1 := rfl
@[simp] theorem blockReset_responses (s : State) : (blockReset s).responses = s.responses := rfl
@[simp] theorem blockReset_traffic (s : State) : (blockReset s).traffic = s.traffic ++ abandonedTraffic s := rfl

@[simp] theorem drawBus_of_setTmp (s : State) (v : Byte) :
    (s.setTmp v).drawBus = (s.drawBus.1, s.drawBus.2.setTmp v) := by
  unfold State.drawBus; cases h : s.busIn <;> simp [State.setTmp, h]
@[simp] theorem drawBus_of_assign (s : State) (a : Assign) :
    (s.assign a).drawBus = (s.drawBus.1, s.drawBus.2.assign a) := by
  cases a <;> (unfold State.drawBus; cases h : s.busIn <;> simp [State.assign, h])
@[simp] theorem drawBus_of_record (s : State) (e : BusEvent) :
    (s.record e).drawBus = (s.drawBus.1, s.drawBus.2.record e) := by
  unfold State.drawBus; cases h : s.busIn <;> simp [State.record, h]
@[simp] theorem drawBus_of_remember (s : State) (g : Got) :
    (s.remember g).drawBus = (s.drawBus.1, s.drawBus.2.remember g) := by
  unfold State.drawBus; cases h : s.busIn <;> simp [State.remember, h]
@[simp] theorem drawBus_of_waitFor (s : State) (t : Txn) :
    (s.waitFor t).drawBus = (s.drawBus.1, s.drawBus.2.waitFor t) := by
  unfold State.drawBus; cases h : s.busIn <;> simp [State.waitFor, h]
@[simp] theorem drawBus_of_accept (s : State) (i : Instr) :
    (s.accept i).drawBus = (s.drawBus.1, s.drawBus.2.accept i) := by
  unfold State.drawBus; cases h : s.busIn <;> simp [State.accept, h]
@[simp] theorem drawBus_of_withHostIn (s : State) (h : List HostEvent) :
    (s.withHostIn h).drawBus = (s.drawBus.1, s.drawBus.2.withHostIn h) := by
  unfold State.drawBus; cases h : s.busIn <;> simp [State.withHostIn, h]
@[simp] theorem drawBus_of_withResetIn (s : State) (r : List Bool) :
    (s.withResetIn r).drawBus = (s.drawBus.1, s.drawBus.2.withResetIn r) := by
  unfold State.drawBus; cases h : s.busIn <;> simp [State.withResetIn, h]

@[simp] theorem drawPin_of_setTmp (s : State) (v : Byte) :
    (s.setTmp v).drawPin = (s.drawPin.1, s.drawPin.2.setTmp v) := by
  unfold State.drawPin; cases h : s.pinIn <;> simp [State.setTmp, h]
@[simp] theorem drawPin_of_assign (s : State) (a : Assign) :
    (s.assign a).drawPin = (s.drawPin.1, s.drawPin.2.assign a) := by
  cases a <;> (unfold State.drawPin; cases h : s.pinIn <;> simp [State.assign, h])
@[simp] theorem drawPin_of_record (s : State) (e : BusEvent) :
    (s.record e).drawPin = (s.drawPin.1, s.drawPin.2.record e) := by
  unfold State.drawPin; cases h : s.pinIn <;> simp [State.record, h]
@[simp] theorem drawPin_of_remember (s : State) (g : Got) :
    (s.remember g).drawPin = (s.drawPin.1, s.drawPin.2.remember g) := by
  unfold State.drawPin; cases h : s.pinIn <;> simp [State.remember, h]
@[simp] theorem drawPin_of_waitFor (s : State) (t : Txn) :
    (s.waitFor t).drawPin = (s.drawPin.1, s.drawPin.2.waitFor t) := by
  unfold State.drawPin; cases h : s.pinIn <;> simp [State.waitFor, h]
@[simp] theorem drawPin_of_accept (s : State) (i : Instr) :
    (s.accept i).drawPin = (s.drawPin.1, s.drawPin.2.accept i) := by
  unfold State.drawPin; cases h : s.pinIn <;> simp [State.accept, h]
@[simp] theorem drawPin_of_withHostIn (s : State) (h : List HostEvent) :
    (s.withHostIn h).drawPin = (s.drawPin.1, s.drawPin.2.withHostIn h) := by
  unfold State.drawPin; cases h : s.pinIn <;> simp [State.withHostIn, h]
@[simp] theorem drawPin_of_withResetIn (s : State) (r : List Bool) :
    (s.withResetIn r).drawPin = (s.drawPin.1, s.drawPin.2.withResetIn r) := by
  unfold State.drawPin; cases h : s.pinIn <;> simp [State.withResetIn, h]

end Sys2Proof.Machine
end

