-- ==== Sys2Proof/Laws/Ops.lean ====
section
/-! SUPPORT. What running a script can do, said once: one lemma for each thing a script does next, what every run keeps,
and how every run ends. -/

namespace Sys2Proof.Machine

/-! ### One lemma for each thing a script does next -/

@[simp] theorem run_respond (tr : Bool) (st : Status) (p : Payload) (past : List Got) (s : State) :
    run tr (.respond st p) past s = s.finish st p := rfl

@[simp] theorem run_raise (tr : Bool) (e : Status) (p : Payload) (past : List Got) (s : State) :
    run tr (.raise e p) past s = s.raiseError tr e p := rfl

@[simp] theorem run_latch (tr : Bool) (v : Byte) (k : Byte → Script) (past : List Got) (s : State) :
    run tr (.latch v k) past s = run tr (k v) past (s.setTmp v) := rfl

@[simp] theorem run_assign (tr : Bool) (a : Assign) (k : Script) (past : List Got) (s : State) :
    run tr (.assign a k) past s = run tr k past (s.assign a) := rfl

@[simp] theorem run_xfer_past (tr : Bool) (t : Txn) (k : Byte → Script) (b : Byte) (past : List Got) (s : State) :
    run tr (.xfer t k) (.byte b :: past) s = run tr (k b) past s := rfl

@[simp] theorem run_sample_past (tr : Bool) (k : PinLevel → Script) (l : PinLevel) (past : List Got) (s : State) :
    run tr (.sample k) (.level l :: past) s = run tr (k l) past s := rfl

theorem run_xfer_ok (tr : Bool) (t : Txn) (k : Byte → Script) {s : State} {b : Byte} (h : s.drawBus.1 = .ok b) :
    run tr (.xfer t k) [] s =
      run tr (k b) [] ((s.drawBus.2.record (.txn t (okResult t b))).remember (.byte b)) := by
  rcases hd : s.drawBus with ⟨a, s1⟩
  rw [hd] at h
  cases h
  simp only [run, hd]

theorem run_xfer_err (tr : Bool) (t : Txn) (k : Byte → Script) {s : State} (h : s.drawBus.1 = .err) :
    run tr (.xfer t k) [] s = (s.drawBus.2.record (.txn t .err)).raiseError tr .busError 0 := by
  rcases hd : s.drawBus with ⟨a, s1⟩
  rw [hd] at h
  cases h
  simp only [run, hd]

theorem run_xfer_stall (tr : Bool) (t : Txn) (k : Byte → Script) {s : State} (h : s.drawBus.1 = .stall) :
    run tr (.xfer t k) [] s = s.drawBus.2.waitFor t := by
  rcases hd : s.drawBus with ⟨a, s1⟩
  rw [hd] at h
  cases h
  simp only [run, hd]

theorem run_xfer_later (tr : Bool) (t : Txn) (k : Byte → Script) {s : State} (h : s.drawBus.1 = .later) :
    run tr (.xfer t k) [] s = s.drawBus.2 := by
  rcases hd : s.drawBus with ⟨a, s1⟩
  rw [hd] at h
  cases h
  simp only [run, hd]

theorem run_sample (tr : Bool) (k : PinLevel → Script) (s : State) :
    run tr (.sample k) [] s =
      run tr (k s.drawPin.1) [] ((s.drawPin.2.record (.pin s.drawPin.1)).remember (.level s.drawPin.1)) := rfl

/-! ### One induction for all -/

/-- A property of states that every update a script makes keeps, and that its two endings keep, is kept by every run. -/
theorem run_keeps (P : State → Prop) (tr : Bool)
    (hTmp : ∀ s v, P s → P (s.setTmp v)) (hAssign : ∀ s a, P s → P (s.assign a))
    (hBus : ∀ s, P s → P s.drawBus.2) (hPin : ∀ s, P s → P s.drawPin.2)
    (hRecord : ∀ s e, P s → P (s.record e)) (hRemember : ∀ s g, P s → P (s.remember g))
    (hWait : ∀ s t, P s → P (s.waitFor t)) (hFinish : ∀ s st p, P s → P (s.finish st p)) :
    ∀ (sc : Script) (past : List Got) (s : State), P s → P (run tr sc past s) := by
  have hRaise : ∀ s e p, P s → P (s.raiseError tr e p) := by
    intro s e p h
    unfold State.raiseError
    split
    · exact hFinish _ _ _ (hAssign _ _ h)
    · exact hFinish _ _ _ h
  intro sc
  induction sc with
  | respond st p => intro past s h; exact hFinish _ _ _ h
  | raise e p => intro past s h; exact hRaise _ _ _ h
  | latch v k ih => intro past s h; exact ih _ _ _ (hTmp _ _ h)
  | assign a k ih => intro past s h; exact ih _ _ (hAssign _ _ h)
  | sample k ih =>
    intro past s h
    match past with
    | .level l :: past => exact ih _ _ _ h
    | .byte b :: past => exact h
    | [] => rw [run_sample]; exact ih _ _ _ (hRemember _ _ (hRecord _ _ (hPin _ h)))
  | xfer t k ih =>
    intro past s h
    match past with
    | .byte b :: past => exact ih _ _ _ h
    | .level l :: past => exact h
    | [] =>
      match ha : s.drawBus.1 with
      | .ok b => rw [run_xfer_ok tr t k ha]; exact ih _ _ _ (hRemember _ _ (hRecord _ _ (hBus _ h)))
      | .err => rw [run_xfer_err tr t k ha]; exact hRaise _ _ _ (hRecord _ _ (hBus _ h))
      | .stall => rw [run_xfer_stall tr t k ha]; exact hWait _ _ (hBus _ h)
      | .later => rw [run_xfer_later tr t k ha]; exact hBus _ h

/-- No run changes a parameter. -/
@[simp] theorem run_cfg (tr : Bool) (sc : Script) (past : List Got) (s : State) : (run tr sc past s).cfg = s.cfg :=
  run_keeps (fun t => t.cfg = s.cfg) tr (by simp) (by simp) (by simp) (by simp) (by simp) (by simp) (by simp) (by simp)
    sc past s rfl

/-- No run touches what the host presents next. -/
@[simp] theorem run_hostIn (tr : Bool) (sc : Script) (past : List Got) (s : State) :
    (run tr sc past s).hostIn = s.hostIn :=
  run_keeps (fun t => t.hostIn = s.hostIn) tr (by simp) (by simp) (by simp) (by simp) (by simp) (by simp) (by simp)
    (by simp) sc past s rfl

/-- No run touches the reset input. -/
@[simp] theorem run_resetIn (tr : Bool) (sc : Script) (past : List Got) (s : State) :
    (run tr sc past s).resetIn = s.resetIn :=
  run_keeps (fun t => t.resetIn = s.resetIn) tr (by simp) (by simp) (by simp) (by simp) (by simp) (by simp) (by simp)
    (by simp) sc past s rfl

/-- What a run puts on the bus comes after what was there: nothing is undone (R200). -/
theorem run_traffic (tr : Bool) (sc : Script) (past : List Got) (s : State) :
    ∃ es, (run tr sc past s).traffic = s.traffic ++ es :=
  run_keeps (fun t => ∃ es, t.traffic = s.traffic ++ es) tr (by simp) (by simp) (by simp) (by simp)
    (by rintro u e ⟨es, h⟩; exact ⟨es ++ [e], by simp [h]⟩) (by simp) (by simp) (by simp) sc past s ⟨[], by simp⟩

/-- How a run that a busy block makes ends: the block is still busy with the same command and nothing was answered, or it
is idle and exactly one response was emitted. -/
theorem run_ends (tr : Bool) (sc : Script) (past : List Got) (s : State) (hb : s.busy = true) :
    ((run tr sc past s).busy = true ∧ (run tr sc past s).responses = s.responses ∧
      (run tr sc past s).inFlight.map (·.cmd) = s.inFlight.map (·.cmd)) ∨
    ((run tr sc past s).busy = false ∧ (run tr sc past s).inFlight = none ∧
      ∃ st p, (run tr sc past s).responses = s.responses ++ [respWord st p]) := by
  induction sc generalizing past s with
  | respond st p => exact .inr ⟨rfl, rfl, st, p, rfl⟩
  | raise e p => exact .inr ⟨by simp, by simp, e, p, by simp⟩
  | latch v k ih => simpa using ih v past (s.setTmp v) (by simpa using hb)
  | assign a k ih => simpa using ih past (s.assign a) (by simpa using hb)
  | sample k ih =>
    match past with
    | .level l :: past => simpa using ih l past s hb
    | .byte b :: past => exact .inl ⟨hb, rfl, rfl⟩
    | [] =>
      rw [run_sample]
      have := ih s.drawPin.1 [] ((s.drawPin.2.record (.pin s.drawPin.1)).remember (.level s.drawPin.1)) (by simpa using hb)
      simpa [Option.map_map, Function.comp_def] using this
  | xfer t k ih =>
    match past with
    | .byte b :: past => simpa using ih b past s hb
    | .level l :: past => exact .inl ⟨hb, rfl, rfl⟩
    | [] =>
      match ha : s.drawBus.1 with
      | .ok b =>
        rw [run_xfer_ok tr t k ha]
        have := ih b [] ((s.drawBus.2.record (.txn t (okResult t b))).remember (.byte b)) (by simpa using hb)
        simpa [Option.map_map, Function.comp_def] using this
      | .err => rw [run_xfer_err tr t k ha]; exact .inr ⟨by simp, by simp, .busError, 0, by simp⟩
      | .stall =>
        rw [run_xfer_stall tr t k ha]
        exact .inl ⟨by simpa using hb, by simp, by simp [Option.map_map, Function.comp_def]⟩
      | .later => rw [run_xfer_later tr t k ha]; exact .inl ⟨by simpa using hb, by simp, by simp⟩

/-! ### A command -/

theorem runCommand_open {i : Instr} {s : State} (sc : Script) (hb : s.busy = false) (hg : (gateOf i).holds s = true) :
    runCommand i sc s = run (isTransition i) sc [] (s.accept i) := by
  simp [runCommand, hb, hg]

theorem runCommand_shut {i : Instr} {s : State} (sc : Script) (hb : s.busy = false) (hg : (gateOf i).holds s = false) :
    runCommand i sc s = (s.accept i).finish .wrongMode 0 := by
  simp [runCommand, hb, hg, State.raiseError]

theorem runCommand_goes_on {i : Instr} {s : State} {f : InFlight} (sc : Script) (hb : s.busy = true)
    (hf : s.inFlight = some f) (hi : f.cmd = i) : runCommand i sc s = run (isTransition i) sc f.got s := by
  simp [runCommand, hb, hf, hi]

/-- A busy block does not accept another command (R14). -/
theorem runCommand_not_accepted {i : Instr} {s : State} {f : InFlight} (sc : Script) (hb : s.busy = true)
    (hf : s.inFlight = some f) (hi : f.cmd ≠ i) : runCommand i sc s = s := by
  simp [runCommand, hb, hf, hi]

/-- What one command can do to the block: not accepted, refused by the gate, or run from its start or from where it stood. -/
theorem runCommand_cases (i : Instr) (sc : Script) (s : State) :
    (s.busy = true ∧ runCommand i sc s = s) ∨
    (s.busy = false ∧ (gateOf i).holds s = false ∧ runCommand i sc s = (s.accept i).finish .wrongMode 0) ∨
    (s.busy = false ∧ (gateOf i).holds s = true ∧ runCommand i sc s = run (isTransition i) sc [] (s.accept i)) ∨
    (∃ f, s.busy = true ∧ s.inFlight = some f ∧ f.cmd = i ∧ runCommand i sc s = run (isTransition i) sc f.got s) := by
  cases hb : s.busy
  · cases hg : (gateOf i).holds s
    · exact .inr (.inl ⟨rfl, rfl, runCommand_shut sc hb hg⟩)
    · exact .inr (.inr (.inl ⟨rfl, rfl, runCommand_open sc hb hg⟩))
  · cases hf : s.inFlight with
    | none => exact .inl ⟨rfl, by simp [runCommand, hb, hf]⟩
    | some f =>
      by_cases hi : f.cmd = i
      · exact .inr (.inr (.inr ⟨f, rfl, rfl, hi, runCommand_goes_on sc hb hf hi⟩))
      · exact .inl ⟨rfl, runCommand_not_accepted sc hb hf hi⟩

@[simp] theorem runCommand_cfg (i : Instr) (sc : Script) (s : State) : (runCommand i sc s).cfg = s.cfg := by
  rcases runCommand_cases i sc s with ⟨-, h⟩ | ⟨-, -, h⟩ | ⟨-, -, h⟩ | ⟨f, -, -, -, h⟩ <;> simp [h]

@[simp] theorem runCommand_hostIn (i : Instr) (sc : Script) (s : State) : (runCommand i sc s).hostIn = s.hostIn := by
  rcases runCommand_cases i sc s with ⟨-, h⟩ | ⟨-, -, h⟩ | ⟨-, -, h⟩ | ⟨f, -, -, -, h⟩ <;> simp [h]

@[simp] theorem runCommand_resetIn (i : Instr) (sc : Script) (s : State) : (runCommand i sc s).resetIn = s.resetIn := by
  rcases runCommand_cases i sc s with ⟨-, h⟩ | ⟨-, -, h⟩ | ⟨-, -, h⟩ | ⟨f, -, -, -, h⟩ <;> simp [h]

end Sys2Proof.Machine
end

