-- ==== Sys2Proof/Laws/Exec.lean ====
section
/-! SUPPORT. Every arm of `exec` runs one script: the script of each instruction as a table, so that a fact about all
instructions needs one look at each script and no look at `exec`. -/

namespace Sys2Proof.Machine

/-- The script of an instruction. -/
def scriptOf (cfg : Params) : Instr → Script
  | .init => initScript cfg
  | .rd r => memRead cfg r fun v => .respond .ok (bytePayload v)
  | .wr r b => wrScript cfg r b
  | .getPower => getScript cfg .power
  | .getFeed => getScript cfg .feed
  | .getPos => getScript cfg .pos
  | .getFilter => getScript cfg .filter
  | .getAxisEn => getScript cfg .axisEn
  | .getAxisInv => getScript cfg .axisInv
  | .getAxisSwap => getScript cfg .axisSwap
  | .getScroll => getScript cfg .scroll
  | .getTap => getScript cfg .tap
  | .getGlide => getScript cfg .glide
  | .getImouse => getScript cfg .imouse
  | .setPower c => setScript cfg .power c
  | .setFilter c => setScript cfg .filter c
  | .setAxisEn c => setScript cfg .axisEn c
  | .setAxisInv c => setScript cfg .axisInv c
  | .setAxisSwap c => setScript cfg .axisSwap c
  | .setScroll c => setScript cfg .scroll c
  | .setTap c => setScript cfg .tap c
  | .setGlide c => setScript cfg .glide c
  | .setImouse c => setScript cfg .imouse c
  | .clrst => clearStatus cfg (.respond .ok 0)
  | .enable => enableScript cfg
  | .disable => disableScript cfg
  | .toabs => toabsScript cfg
  | .torel => torelScript cfg
  | .reldata => reldataScript cfg
  | .absdata => absdataScript cfg
  | .devid => memRead cfg .firmwareId fun v => .respond .ok (bytePayload v)

/-- Every instruction answers a next state, the one its script gives. -/
theorem exec_eq (i : Instr) (s : State) : exec i s = .next (runCommand i (scriptOf s.cfg i) s) := by
  cases i <;> rfl

theorem exec_open {i : Instr} {s : State} (hb : s.busy = false) (hg : (gateOf i).holds s = true) :
    exec i s = .next (run (isTransition i) (scriptOf s.cfg i) [] (s.accept i)) := by
  rw [exec_eq, runCommand_open _ hb hg]

theorem exec_shut {i : Instr} {s : State} (hb : s.busy = false) (hg : (gateOf i).holds s = false) :
    exec i s = .next ((s.accept i).finish .wrongMode 0) := by
  rw [exec_eq, runCommand_shut _ hb hg]

/-- What one step can do: a reset, an illegal word or nothing, or the script of one command. -/
theorem step_cases (s : State) :
    (∃ i s1, portAction s = .go i s1 ∧ step s = .next (runCommand i (scriptOf s1.cfg i) s1)) ∨
    (∃ s1, portAction s = .rest s1 ∧ step s = .next s1) := by
  unfold step
  cases h : portAction s with
  | go i s1 => exact .inl ⟨i, s1, rfl, exec_eq i s1⟩
  | rest s1 => exact .inr ⟨s1, rfl, rfl⟩

/-- What the command port can say. -/
theorem commandPort_cases (s : State) :
    (∃ w rest, s.hostIn = .command w :: rest ∧ s.busy = false ∧
      ((∃ i, decodeWith s.cfg.fields w = .ok i ∧ commandPort s = .go i (s.withHostIn rest)) ∨
       (∃ e, decodeWith s.cfg.fields w = .error e ∧ commandPort s = .rest (illegalCommand (s.withHostIn rest))))) ∨
    (∃ h, s.busy = false ∧ commandPort s = .rest (s.withHostIn h)) ∨
    (∃ h f, s.busy = true ∧ s.inFlight = some f ∧ commandPort s = .go f.cmd (s.withHostIn h)) ∨
    (∃ h, s.busy = true ∧ s.inFlight = none ∧ commandPort s = .rest (s.withHostIn h)) := by
  have same : s.withHostIn s.hostIn = s := rfl
  cases hb : s.busy
  · rcases hh : s.hostIn with _ | ⟨w | _, rest⟩
    · exact .inr (.inl ⟨s.hostIn, rfl, by rw [same]; simp [commandPort, hh, hb]⟩)
    · refine .inl ⟨w, rest, rfl, rfl, ?_⟩
      cases hd : decodeWith s.cfg.fields w with
      | ok i => exact .inl ⟨i, rfl, by simp [commandPort, hh, hb, hd]⟩
      | error e => exact .inr ⟨e, rfl, by simp [commandPort, hh, hb, hd]⟩
    · exact .inr (.inl ⟨rest, rfl, by simp [commandPort, hh, hb]⟩)
  · have taken : ∃ h, commandPort s = busyAction (s.withHostIn h) := by
      rcases hh : s.hostIn with _ | ⟨w | _, rest⟩
      · exact ⟨s.hostIn, by rw [same]; simp [commandPort, hh, hb]⟩
      · exact ⟨s.hostIn, by rw [same]; simp [commandPort, hh, hb]⟩
      · exact ⟨rest, by simp [commandPort, hh, hb]⟩
    obtain ⟨h, ht⟩ := taken
    cases hf : s.inFlight with
    | none => exact .inr (.inr (.inr ⟨h, rfl, rfl, by rw [ht]; simp [busyAction, hf]⟩))
    | some f => exact .inr (.inr (.inl ⟨h, f, rfl, rfl, by rw [ht]; simp [busyAction, hf]⟩))

/-- What a step looks at: the reset input, and the command port only where that is not pulsed. -/
theorem portAction_cases (s : State) :
    (s.resetPulsed = true ∧ portAction s = .rest (blockReset (s.withResetIn s.resetIn.tail))) ∨
    (s.resetPulsed = false ∧ portAction s = commandPort (s.withResetIn s.resetIn.tail)) := by
  cases h : s.resetPulsed
  · exact .inr ⟨rfl, by simp [portAction, h]⟩
  · exact .inl ⟨rfl, by simp [portAction, h]⟩

/-- A step at which the reset input is pulsed. -/
theorem step_of_reset {s : State} (h : s.resetPulsed = true) :
    step s = .next (blockReset (s.withResetIn s.resetIn.tail)) := by simp [step, portAction, h]

/-- A step of an idle block that is presented the word of a command. -/
theorem step_of_command {s : State} {w : CmdWord} {rest : List HostEvent} {i : Instr} (h : s.resetPulsed = false)
    (hb : s.busy = false) (hh : s.hostIn = .command w :: rest) (hd : decodeWith s.cfg.fields w = .ok i) :
    step s = exec i ((s.withResetIn s.resetIn.tail).withHostIn rest) := by
  simp [step, portAction, commandPort, h, hb, hh, hd]

/-- A step of a block that is busy with a command goes on with it, whatever is presented. -/
theorem step_of_busy {s : State} {f : InFlight} (h : s.resetPulsed = false) (hb : s.busy = true)
    (hf : s.inFlight = some f) :
    ∃ rest, step s = exec f.cmd ((s.withResetIn s.resetIn.tail).withHostIn rest) := by
  rcases portAction_cases s with ⟨h', -⟩ | ⟨-, hp⟩
  · simp [h] at h'
  · rcases commandPort_cases (s.withResetIn s.resetIn.tail) with
      ⟨w, r, -, hb', -⟩ | ⟨r, hb', -⟩ | ⟨r, f', -, hf', hc⟩ | ⟨r, -, hf', -⟩
    · simp [hb] at hb'
    · simp [hb] at hb'
    · have : f' = f := by simpa [hf] using hf'.symm
      exact ⟨r, by simp [step, hp, hc, this]⟩
    · simp [hf] at hf'

end Sys2Proof.Machine
end

