-- ==== Sys2Proof/Laws/PerInstr.lean ====
section
/-! SUPPORT. The families of per-instruction statements. `OpcodeRow`: the word of an instruction passes the match and mask of
its row of the opcode table (R69). -/

namespace Sys2Proof.Laws.OpcodeRow

/-- Masks act on the three byte fields one by one. -/
theorem wordOf_and (op a b x y z : Byte) : wordOf op a b &&& wordOf x y z = wordOf (op &&& x) (a &&& y) (b &&& z) := by
  apply BitVec.eq_of_getLsbD_eq
  intro i hi
  simp only [BitVec.getLsbD_and, getLsbD_wordOf]
  split
  · rfl
  · split <;> rfl

theorem and_ones (x : Byte) : x &&& 0xFF = x := BitVec.and_allOnes (x := x)

theorem and_zeros (x : Byte) : x &&& 0x00 = 0 := BitVec.and_zero (x := x)

/-- The mask of the rows of SET. -/
theorem wordOf_mask_set (op a b : Byte) : wordOf op a b &&& 0xFFFF00 = wordOf op a 0 := by
  rw [show (0xFFFF00 : CmdWord) = wordOf 0xFF 0xFF 0x00 from rfl, wordOf_and, and_ones, and_ones, and_zeros]

/-- The mask of the row of WR. -/
theorem wordOf_mask_wr (op a b : Byte) : wordOf op a b &&& 0xFF0000 = wordOf op 0 0 := by
  rw [show (0xFF0000 : CmdWord) = wordOf 0xFF 0x00 0x00 from rfl, wordOf_and, and_ones, and_zeros, and_zeros]

/-- R69 for one instruction. -/
def Statement (i : Instr) : Prop := encode i &&& (opcodeRow i).2 = (opcodeRow i).1

theorem init : Statement .init := rfl

theorem rd (r : ChipReg) : Statement (.rd r) := by
  cases r <;> rfl

theorem wr (r : ChipReg) (b : Byte) : Statement (.wr r b) := wordOf_mask_wr 0x03 r.addr b

theorem getPower : Statement .getPower := rfl

theorem getFeed : Statement .getFeed := rfl

theorem getPos : Statement .getPos := rfl

theorem getFilter : Statement .getFilter := rfl

theorem getAxisEn : Statement .getAxisEn := rfl

theorem getAxisInv : Statement .getAxisInv := rfl

theorem getAxisSwap : Statement .getAxisSwap := rfl

theorem getScroll : Statement .getScroll := rfl

theorem getTap : Statement .getTap := rfl

theorem getGlide : Statement .getGlide := rfl

theorem getImouse : Statement .getImouse := rfl

theorem setPower (c : Byte) : Statement (.setPower c) := wordOf_mask_set 0x05 (Field.id .power) c

theorem setFilter (c : Byte) : Statement (.setFilter c) := wordOf_mask_set 0x05 (Field.id .filter) c

theorem setAxisEn (c : Byte) : Statement (.setAxisEn c) := wordOf_mask_set 0x05 (Field.id .axisEn) c

theorem setAxisInv (c : Byte) : Statement (.setAxisInv c) := wordOf_mask_set 0x05 (Field.id .axisInv) c

theorem setAxisSwap (c : Byte) : Statement (.setAxisSwap c) := wordOf_mask_set 0x05 (Field.id .axisSwap) c

theorem setScroll (c : Byte) : Statement (.setScroll c) := wordOf_mask_set 0x05 (Field.id .scroll) c

theorem setTap (c : Byte) : Statement (.setTap c) := wordOf_mask_set 0x05 (Field.id .tap) c

theorem setGlide (c : Byte) : Statement (.setGlide c) := wordOf_mask_set 0x05 (Field.id .glide) c

theorem setImouse (c : Byte) : Statement (.setImouse c) := wordOf_mask_set 0x05 (Field.id .imouse) c

theorem clrst : Statement .clrst := rfl

theorem enable : Statement .enable := rfl

theorem disable : Statement .disable := rfl

theorem toabs : Statement .toabs := rfl

theorem torel : Statement .torel := rfl

theorem reldata : Statement .reldata := rfl

theorem absdata : Statement .absdata := rfl

theorem devid : Statement .devid := rfl

end Sys2Proof.Laws.OpcodeRow
end

