-- ==== Sys2Proof/Laws/Safety.lean ====
section
/-! SUPPORT. The transactions of the register primitives (R43, R44) are lawful by the numbers of R20, R41 and R42; what the
tag invariant is of an idle block and of a busy one. -/

namespace Sys2Proof.Machine

/-- The address of every register is on the list, and the framing of R42 is the addition. -/
theorem addr_mem_mapAddrs (r : ChipReg) : r.addr ∈ mapAddrs := by cases r <;> decide

theorem marked_is_sum (r : ChipReg) : 0xA0 ||| r.addr = 0xA0 + r.addr ∧ 0x80 ||| r.addr = 0x80 + r.addr := by
  cases r <;> decide

/-- A register is known by its address. -/
theorem addr_injective {r r' : ChipReg} (h : r.addr = r'.addr) : r = r' := by
  revert h; cases r <;> cases r' <;> decide

theorem lawful_readTxn (cfg : Params) (r : ChipReg) : lawfulTxn cfg (readTxn cfg r) = true := by
  have hm := addr_mem_mapAddrs r
  cases hs : cfg.strap <;> cases hf : cfg.framing <;>
    simp [lawfulTxn, readTxn, hs, hf, devAddr, frameRd] <;>
    first | exact hm | exact ⟨r.addr, hm, (marked_is_sum r).1⟩

theorem lawful_writeTxn {cfg : Params} {r : ChipReg} (v : Byte) (h : isReadOnly cfg r = false) :
    lawfulTxn cfg (writeTxn cfg r v) = true := by
  have hm := addr_mem_mapAddrs r
  have ho : ∀ q ∈ cfg.readOnly, ¬ q.addr = r.addr := by
    rintro q hq hqr
    rw [addr_injective hqr] at hq
    simp [isReadOnly, hq] at h
  cases hs : cfg.strap <;> cases hf : cfg.framing <;>
    simp [lawfulTxn, writeTxn, hs, hf, devAddr, frameWr] <;>
    first | exact ⟨hm, ho⟩ | exact ⟨r.addr, ⟨hm, (marked_is_sum r).2⟩, ho⟩ | exact ⟨r.addr, hm, (marked_is_sum r).2, ho⟩

theorem tagInv_idle {s : State} (start : List Byte) (h : s.busy = false) :
    s.tagInv start ↔ s.tagMatchesChip start := by simp [State.tagInv, h]

theorem tagInv_busy {s : State} {f : InFlight} (start : List Byte) (h : s.busy = true) (hf : s.inFlight = some f) :
    s.tagInv start ↔ ((chipView s.cfg .feedConfig1 start s.traffic).passive = true →
      midWay s (chipView s.cfg .feedConfig1 start s.traffic).may f) := by simp [State.tagInv, h, hf]

/-- Where the tag is not trusted the invariant holds of an idle block whatever the chip holds. -/
theorem tagInv_of_unsynced {s : State} (start : List Byte) (h : s.busy = false) (hs : s.synced = false) :
    s.tagInv start := by simp [State.tagInv, State.tagMatchesChip, h, hs]

end Sys2Proof.Machine
end

