-- ==== Sys2Proof/Tests/Slice0.lean ====
section
/-! SUPPORT. The model's own tests: the checks of well-formedness, words written out from the encoding rules, vectors of
spec/95_test_vectors.md (their ids stand in the comments), and for every obligation with hypotheses a witness of them. -/

namespace Sys2Proof.Tests

open Sys2Proof.Machine Sys2Proof.Claims

/-! ### Helpers -/

/-- The parameters of the vectors: the defaults, no ready line. -/
def cfg0 : Params := params .primary false 0 0 0 0

/-- The same with a ready line. -/
def cfgPin : Params := params .primary true 0 0 0 0

/-- T56's bounds, the clamp on. -/
def cfgClamp : Params := { params .primary false 128 1920 64 1472 with clampEnable := true }

/-- Every register that holds a field, and STATUS1, read-only. -/
def cfgLocked : Params := { cfg0 with readOnly := [.sysConfig1, .feedConfig1, .feedConfig2, .status1] }

/-- Only STATUS1 read-only. -/
def cfgStatusLocked : Params := { cfg0 with readOnly := [.status1] }

/-- POS moved to a read-only register of its own. -/
def cfgPosLocked : Params :=
  { cfg0 with readOnly := [.feedConfig2], fields := { fieldTable with pos := { fieldTable.pos with reg := .feedConfig2 } } }

/-- An idle block with a tag and the transport's answers to come. -/
def blk (pos : PosMode) (feed : FeedMode) (synced : Bool) (bus : List BusAnswer) : State :=
  { State.reset with tagPos := pos, tagFeed := feed, synced := synced, busIn := bus, cfg := cfg0 }

/-- `(Relative, NoFeed) s0`, `(Relative, NoFeed) s1`, `(Relative, Enabled) s1`, `(Absolute, Enabled) s1`. -/
def rn0 (bus : List BusAnswer) : State := blk .relative .noFeed false bus
def rn1 (bus : List BusAnswer) : State := blk .relative .noFeed true bus
def re1 (bus : List BusAnswer) : State := blk .relative .enabled true bus
def ae1 (bus : List BusAnswer) : State := blk .absolute .enabled true bus

/-- The ready line, its next level. -/
def line (l : PinLevel) (s : State) : State := { s with cfg := cfgPin, pinIn := [l] }

/-- The bus traffic in the vectors' notation: `R[f]=v`, `R[f]=ERR`, `W[f,v]`, `W[f,v]=ERR`. -/
def R (f v : Byte) : BusEvent := .txn (.writeRead 0x2A [f] 1) (.ok [v])
def RE (f : Byte) : BusEvent := .txn (.writeRead 0x2A [f] 1) .err
def W (f v : Byte) : BusEvent := .txn (.write 0x2A [f, v]) (.ok [])
def WE (f v : Byte) : BusEvent := .txn (.write 0x2A [f, v]) .err

/-- What a vector tells of a run: the responses, the traffic, the tag and `synced`. -/
def seen (o : Host.Outcome State Fault Refusal) : Option (List RespWord × List BusEvent × PosMode × FeedMode × Bool) :=
  match o with
  | .next t => some (t.responses, t.traffic, t.tagPos, t.tagFeed, t.synced)
  | .fault _ => none
  | .refused _ => none

/-! ### Well-formedness refuses an undeclared code (R65), one term for each check -/

theorem test_wf_refuses_setPower : (Instr.setPower 3).wf fieldTable = false ∧ (Instr.setPower 2).wf fieldTable = true := by decide
theorem test_wf_refuses_setFilter : (Instr.setFilter 2).wf fieldTable = false ∧ (Instr.setFilter 1).wf fieldTable = true := by decide
theorem test_wf_refuses_setAxisEn : (Instr.setAxisEn 4).wf fieldTable = false ∧ (Instr.setAxisEn 3).wf fieldTable = true := by decide
theorem test_wf_refuses_setAxisInv : (Instr.setAxisInv 4).wf fieldTable = false ∧ (Instr.setAxisInv 3).wf fieldTable = true := by decide
theorem test_wf_refuses_setAxisSwap : (Instr.setAxisSwap 2).wf fieldTable = false ∧ (Instr.setAxisSwap 1).wf fieldTable = true := by decide
theorem test_wf_refuses_setScroll : (Instr.setScroll 2).wf fieldTable = false ∧ (Instr.setScroll 1).wf fieldTable = true := by decide
theorem test_wf_refuses_setTap : (Instr.setTap 3).wf fieldTable = false ∧ (Instr.setTap 2).wf fieldTable = true := by decide
theorem test_wf_refuses_setGlide : (Instr.setGlide 2).wf fieldTable = false ∧ (Instr.setGlide 1).wf fieldTable = true := by decide
theorem test_wf_refuses_setImouse : (Instr.setImouse 2).wf fieldTable = false ∧ (Instr.setImouse 1).wf fieldTable = true := by decide

/-- R23 is a check too: two overlapping masks, a code outside its mask, bounds out of order. -/
theorem test_wf_refuses_overlapping_masks :
    ({ fieldTable with pos := { fieldTable.pos with mask := 0x03 } } : FieldTable).wf = false := by decide
theorem test_wf_refuses_code_outside_mask :
    ({ fieldTable with power := { fieldTable.power with mask := 0x02 } } : FieldTable).wf = false := by decide
theorem test_wf_accepts_the_default_parameters : cfg0.wf = true ∧ ({ cfg0 with xLower := 1 } : Params).wf = false := by decide

/-! ### Decoding: the words of T1, and those of T2 -/

theorem test_decode_format_N :
    [0x010000, 0x060000, 0x070000, 0x080000, 0x090000, 0x0A0000, 0x0B0000, 0x0C0000, 0x0D0000].map (decodeTableWord 24) =
      [some .init, some .clrst, some .enable, some .disable, some .toabs, some .torel, some .reldata, some .absdata,
       some .devid] := by decide
theorem test_decode_format_R_W :
    [0x020200, 0x021700, 0x030A1E, 0x030055].map (decodeTableWord 24) =
      [some (.rd .status1), some (.rd .packetByte5), some (.wr .zIdle 0x1E), some (.wr .firmwareId 0x55)] := by decide
theorem test_decode_format_F :
    [0x040000, 0x040100, 0x040200, 0x040300, 0x040400, 0x040500, 0x040600, 0x040700, 0x040800, 0x040900,
      0x040A00].map (decodeTableWord 24) =
      [some .getPower, some .getFeed, some .getPos, some .getFilter, some .getAxisEn, some .getAxisInv, some .getAxisSwap,
       some .getScroll, some .getTap, some .getGlide, some .getImouse] := by decide
theorem test_decode_format_V :
    [0x050002, 0x050301, 0x050402, 0x050503, 0x050601, 0x050701, 0x050802, 0x050900, 0x050A01].map (decodeTableWord 24) =
      [some (.setPower 2), some (.setFilter 1), some (.setAxisEn 2), some (.setAxisInv 3), some (.setAxisSwap 1),
       some (.setScroll 1), some (.setTap 2), some (.setGlide 0), some (.setImouse 1)] := by decide
theorem test_decode_refuses_T2 :
    [0x000000, 0x0E0000, 0xFF0000, 0x010001, 0x010100, 0x060001, 0x0B0100, 0x0D0001, 0x020201, 0x020600, 0x020E00, 0x021100,
      0x021800, 0x02FF00, 0x030600, 0x03180A, 0x040B00, 0x040001, 0x050100, 0x050201, 0x050B00, 0x050003, 0x050803,
      0x050302, 0x050404].all (fun w => decodeTableWord 24 w = none) = true := by decide
/-- R72's two example lines. -/
theorem test_assembler_lines :
    (setByName fieldTable .power .sleep).map encode = some 0x050002 ∧ encode (.rd .status1) = 0x020200 ∧
      setByName fieldTable .feed .enabled = none := by decide
theorem test_encode_T1 : encode (.wr .zIdle 0x1E) = 0x030A1E ∧ encode .getImouse = 0x040A00 ∧ encode .devid = 0x0D0000 := by
  decide

/-! ### Pure functions: T11, T12, T40, T45, T50, T56 -/

theorem test_decode_field_T11 :
    [0x00, 0x02, 0x04, 0xF9, 0x06, 0xFF].map (fun p => decodeField fieldTable.power (fieldBits fieldTable.power p)) =
      [some .normal, some .shutdown, some .sleep, some .normal, none, none] := by decide
theorem test_decode_axis_T11 :
    [0x08, 0x10, 0x18, 0xE7].map (fun p => decodeField fieldTable.axisEn (fieldBits fieldTable.axisEn p)) =
      [some .xOff, some .yOff, some .bothOff, some .bothOn] := by decide
theorem test_compose_T12 :
    compose fieldTable.power 2 0x03 = 0x05 ∧ compose fieldTable.pos 1 0x01 = 0x03 ∧ compose fieldTable.axisEn 2 0xFF = 0xF7 ∧
      compose fieldTable.axisInv 1 0x81 = 0x41 ∧ compose fieldTable.tap 1 0x04 = 0x02 ∧
      compose fieldTable.glide 0 0xFF = 0xEF := by decide
theorem test_toInt9_T40 :
    toInt9 false 0x80 = 128 ∧ toInt9 true 0x00 = -256 ∧ toInt9 true 0x05 = -251 ∧ toInt9 true 0xFF = -1 := by decide
theorem test_relative_payloads_T45 :
    relPayload (relDecode 0x37 0x7F 0x80) = 0x0001F017F ∧ relPayload (relDecode 0xC8 0xC8 0x64) = 0x00000C8C8 ∧
      relPayload (relDecode 0x04 0x00 0x00) = 0x000100000 := by decide
theorem test_absolute_payloads_T50 :
    absPayload (absDecode 0xC0 0x00 0x00 0xF0 0x40) = 0x000F00000 ∧
      absPayload (absDecode 0x2A 0x34 0x12 0xA5 0x3F) = 0xABFA12534 := by decide
theorem test_clamp_T56 :
    clamp cfgClamp ⟨1, 127, 1473, 2⟩ = ⟨1, 128, 1472, 2⟩ ∧ clamp cfgClamp ⟨0, 0xFFF, 0, 0⟩ = ⟨0, 1920, 64, 0⟩ ∧
      clamp cfg0 ⟨1, 127, 1473, 2⟩ = ⟨1, 127, 1473, 2⟩ := by decide
theorem test_levels_R71 : levels (ae1 []) = ⟨1, 1, 1, 0⟩ ∧ levels State.reset = ⟨0, 0, 0, 0⟩ := ⟨rfl, rfl⟩

/-! ### One command at a time: T20 to T62 -/

/-- T20 -/
theorem test_rd : seen (exec (.rd .feedConfig2) (rn0 [.ok 0x1E])) =
    some ([0x000000001E], [R 0xA5 0x1E], .relative, .noFeed, false) := by decide
/-- T28 -/
theorem test_rd_bus_error : seen (exec (.rd .sysConfig1) (rn0 [.err])) =
    some ([0x2000000000], [RE 0xA3], .relative, .noFeed, false) := by decide
/-- T21 -/
theorem test_wr : seen (exec (.wr .zIdle 0x1E) (rn0 [.ok 0])) =
    some ([0], [W 0x8A 0x1E], .relative, .noFeed, false) := by decide
/-- T29 -/
theorem test_wr_feed_config1 : seen (exec (.wr .feedConfig1 0x03) (re1 [.err])) =
    some ([0x2000000000], [WE 0x84 0x03], .relative, .enabled, false) := by decide
/-- T22 -/
theorem test_wr_read_only : seen (exec (.wr .firmwareId 0x55) (rn0 [])) =
    some ([0x4000000000], [], .relative, .noFeed, false) := by decide
/-- T24 -/
theorem test_clrst : seen (exec .clrst (rn0 [.ok 0])) =
    some ([0], [W 0x82 0x00], .relative, .noFeed, false) := by decide
/-- T25 -/
theorem test_devid : seen (exec .devid (rn0 [.ok 0x07])) =
    some ([0x0000000007], [R 0xA0 0x07], .relative, .noFeed, false) := by decide
/-- T31 -/
theorem test_getPower : seen (exec .getPower (rn1 [.ok 0x04])) =
    some ([2], [R 0xA3 0x04], .relative, .noFeed, true) := by decide
/-- T31 -/
theorem test_getFeed : seen (exec .getFeed (rn1 [.ok 0x5B])) =
    some ([1], [R 0xA4 0x5B], .relative, .noFeed, true) := by decide
/-- T31 -/
theorem test_getPos : seen (exec .getPos (rn1 [.ok 0x5B])) =
    some ([1], [R 0xA4 0x5B], .relative, .noFeed, true) := by decide
/-- T31 -/
theorem test_getFilter : seen (exec .getFilter (rn1 [.ok 0x5B])) =
    some ([0], [R 0xA4 0x5B], .relative, .noFeed, true) := by decide
/-- T31 -/
theorem test_getAxisEn : seen (exec .getAxisEn (rn1 [.ok 0x5B])) =
    some ([3], [R 0xA4 0x5B], .relative, .noFeed, true) := by decide
/-- T31 -/
theorem test_getAxisInv : seen (exec .getAxisInv (rn1 [.ok 0x5B])) =
    some ([1], [R 0xA4 0x5B], .relative, .noFeed, true) := by decide
/-- T31 -/
theorem test_getAxisSwap : seen (exec .getAxisSwap (rn1 [.ok 0x93])) =
    some ([1], [R 0xA5 0x93], .relative, .noFeed, true) := by decide
/-- T31 -/
theorem test_getScroll : seen (exec .getScroll (rn1 [.ok 0x93])) =
    some ([0], [R 0xA5 0x93], .relative, .noFeed, true) := by decide
/-- T31 -/
theorem test_getTap : seen (exec .getTap (rn1 [.ok 0x93])) =
    some ([1], [R 0xA5 0x93], .relative, .noFeed, true) := by decide
/-- T31 -/
theorem test_getGlide : seen (exec .getGlide (rn1 [.ok 0x93])) =
    some ([1], [R 0xA5 0x93], .relative, .noFeed, true) := by decide
/-- T31 -/
theorem test_getImouse : seen (exec .getImouse (rn1 [.ok 0x93])) =
    some ([1], [R 0xA5 0x93], .relative, .noFeed, true) := by decide
/-- T32 -/
theorem test_getTap_undeclared : seen (exec .getTap (rn1 [.ok 0x06])) =
    some ([0x5000000003], [R 0xA5 0x06], .relative, .noFeed, true) := by decide
/-- T32 -/
theorem test_getPower_undeclared : seen (exec .getPower (rn0 [.ok 0xFF])) =
    some ([0x5000000003], [R 0xA3 0xFF], .relative, .noFeed, false) := by decide
/-- T33 -/
theorem test_getAxisInv_gate : seen (exec .getAxisInv (ae1 [])) =
    some ([0x8000000000], [], .absolute, .enabled, true) := by decide
/-- T34 -/
theorem test_setPower : seen (exec (.setPower 2) (rn1 [.ok 0x03, .ok 0])) =
    some ([0], [R 0xA3 0x03, W 0x83 0x05], .relative, .noFeed, true) := by decide
/-- T35 -/
theorem test_setFilter : seen (exec (.setFilter 1) (rn1 [.ok 0x00, .ok 0])) =
    some ([0], [R 0xA4 0x00, W 0x84 0x04], .relative, .noFeed, true) := by decide
/-- T36 -/
theorem test_setAxisEn : seen (exec (.setAxisEn 2) (rn1 [.ok 0xFF, .ok 0])) =
    some ([0], [R 0xA4 0xFF, W 0x84 0xF7], .relative, .noFeed, true) := by decide
/-- T37 -/
theorem test_setAxisInv : seen (exec (.setAxisInv 1) (rn1 [.ok 0x81, .ok 0])) =
    some ([0], [R 0xA4 0x81, W 0x84 0x41], .relative, .noFeed, true) := by decide
/-- T38 -/
theorem test_setAxisSwap : seen (exec (.setAxisSwap 1) (rn1 [.ok 0x1E, .ok 0])) =
    some ([0], [R 0xA5 0x1E, W 0x85 0x9E], .relative, .noFeed, true) := by decide
/-- T39a -/
theorem test_setScroll : seen (exec (.setScroll 1) (rn1 [.ok 0x00, .ok 0])) =
    some ([0], [R 0xA5 0x00, W 0x85 0x08], .relative, .noFeed, true) := by decide
/-- T39b -/
theorem test_setTap : seen (exec (.setTap 1) (rn1 [.ok 0x04, .ok 0])) =
    some ([0], [R 0xA5 0x04, W 0x85 0x02], .relative, .noFeed, true) := by decide
/-- T39c -/
theorem test_setGlide : seen (exec (.setGlide 1) (rn1 [.ok 0x00, .ok 0])) =
    some ([0], [R 0xA5 0x00, W 0x85 0x10], .relative, .noFeed, true) := by decide
/-- T39d -/
theorem test_setImouse : seen (exec (.setImouse 0) (rn1 [.ok 0xFF, .ok 0])) =
    some ([0], [R 0xA5 0xFF, W 0x85 0xFE], .relative, .noFeed, true) := by decide
/-- T39f -/
theorem test_setPower_write_fails : seen (exec (.setPower 1) (rn1 [.ok 0, .err])) =
    some ([0x2000000000], [R 0xA3 0x00, WE 0x83 0x02], .relative, .noFeed, true) := by decide
/-- T60a -/
theorem test_init : seen (exec .init (blk .absolute .enabled false [.ok 0x03, .ok 0, .ok 0x02, .ok 0])) =
    some ([0], [R 0xA4 0x03, W 0x84 0x02, R 0xA4 0x02, W 0x84 0x00], .relative, .noFeed, true) := by decide
/-- T61c -/
theorem test_init_fails : seen (exec .init (ae1 [.ok 0x03, .ok 0, .err])) =
    some ([0x2000000000], [R 0xA4 0x03, W 0x84 0x02, RE 0xA4], .absolute, .enabled, false) := by decide
/-- T60d -/
theorem test_enable : seen (exec .enable (blk .absolute .noFeed true [.ok 0xFE, .ok 0, .ok 0])) =
    some ([0], [R 0xA4 0xFE, W 0x84 0xFF, W 0x82 0x00], .absolute, .enabled, true) := by decide
/-- T61g -/
theorem test_enable_fails : seen (exec .enable (rn1 [.ok 0x00, .ok 0, .err])) =
    some ([0x2000000000], [R 0xA4 0x00, W 0x84 0x01, WE 0x82 0x00], .relative, .noFeed, false) := by decide
/-- T60e -/
theorem test_disable : seen (exec .disable (ae1 [.ok 0x03, .ok 0])) =
    some ([0], [R 0xA4 0x03, W 0x84 0x02], .absolute, .noFeed, true) := by decide
/-- T60f -/
theorem test_toabs : seen (exec .toabs (re1 [.ok 0x01, .ok 0])) =
    some ([0], [R 0xA4 0x01, W 0x84 0x03], .absolute, .enabled, true) := by decide
/-- T61h -/
theorem test_toabs_fails : seen (exec .toabs (re1 [.err])) =
    some ([0x2000000000], [RE 0xA4], .relative, .enabled, false) := by decide
/-- T60g -/
theorem test_torel : seen (exec .torel (ae1 [.ok 0x03, .ok 0])) =
    some ([0], [R 0xA4 0x03, W 0x84 0x01], .relative, .enabled, true) := by decide
/-- T45a -/
theorem test_reldata : seen (exec .reldata (line .high (re1 [.ok 0x04, .ok 0x21, .ok 0x0A, .ok 0x05, .ok 0]))) =
    some ([0x0000060A0A], [.pin .high, R 0xA2 0x04, R 0xB2 0x21, R 0xB3 0x0A, R 0xB4 0x05, W 0x82 0x00], .relative, .enabled, true) := by decide
/-- T51, k = 5 -/
theorem test_reldata_clear_fails : seen (exec .reldata (re1 [.ok 0x04, .ok 0x21, .ok 0x0A, .ok 0x05, .err])) =
    some ([0x2000000000], [R 0xA2 0x04, R 0xB2 0x21, R 0xB3 0x0A, R 0xB4 0x05, WE 0x82 0x00], .relative, .enabled, true) := by decide
/-- T62: a torn packet -/
theorem test_absdata : seen (exec .absdata (ae1 [.ok 0x04, .ok 0x3F, .ok 0xFF, .ok 0x20, .ok 0x31, .ok 0x08, .ok 0])) =
    some ([0x0FC83201FF], [R 0xA2 0x04, R 0xB2 0x3F, R 0xB4 0xFF, R 0xB5 0x20, R 0xB6 0x31, R 0xB7 0x08, W 0x82 0x00], .absolute, .enabled, true) := by decide
/-- T57 -/
theorem test_absdata_line_low : seen (exec .absdata (line .low (ae1 []))) =
    some ([0x1000000000], [.pin .low], .absolute, .enabled, true) := by decide

/-! ### The port -/

/-- T3: decode goes before the gate. -/
theorem test_illegal_before_gate : seen (step ((blk .absolute .noFeed false []).withFetchWord 24 0x0B0100)) =
    some ([0x9000000000], [], .absolute, .noFeed, false) := by decide
theorem test_gate_after_decode : seen (step ((blk .absolute .noFeed false []).withFetchWord 24 0x0B0000)) =
    some ([0x8000000000], [], .absolute, .noFeed, false) := by decide
/-- P6, steps 1 and 2. -/
theorem test_reset_then_gated :
    seen (step { re1 [] with resetIn := [true] }) = some ([], [], .relative, .noFeed, false) := by decide
/-- R222, by the rules: INIT reset after its second transaction. -/
theorem test_reset_between_transactions :
    seen (core.run 2 { ae1 [.ok 0x03, .ok 0, .later] with
      hostIn := [.command 0x010000], resetIn := [false, true] }) =
      some ([], [R 0xA4 0x03, W 0x84 0x02], .relative, .noFeed, false) := by decide
/-- R220, R222, log entry 22: a reset is taken while DEVID is pending at the port of a block that hangs, and DEVID after it. -/
theorem test_reset_while_a_command_is_pending :
    seen (core.run 3 { rn1 [.stall, .ok 0x07] with
      hostIn := [.command 0x020300, .command 0x0D0000], resetIn := [false, true] }) =
      some ([0x0000000007], [.txn (.writeRead 0x2A [0xA3] 1) .abandoned, R 0xA0 0x07], .relative, .noFeed, false) := by decide
/-- R14, R50: a command that waited goes on where it stood, and the command behind it is still at the port. -/
theorem test_wait_and_go_on :
    seen (core.run 2 { rn1 [.ok 0x03, .stall, .ok 0] with hostIn := [.command 0x050002, .command 0x0D0000] }) =
      some ([0], [R 0xA3 0x03, W 0x83 0x05], .relative, .noFeed, true) := by decide

/-! ### Witnesses: for every obligation with hypotheses, and for every clause, operands and states that meet them -/

theorem witness_DecodeOfEncodeIsTheInstruction :
    ∃ (ft : FieldTable) (i : Instr), i.wf ft = true := ⟨fieldTable, .setTap 2, by decide⟩

theorem witness_LegalWordIsTheEncodingOfItsInstruction :
    ∃ (ft : FieldTable) (w : CmdWord) (i : Instr), decodeWith ft w = .ok i := ⟨fieldTable, 0x050A01, .setImouse 1, rfl⟩

theorem witness_NoWordPassesTwoOpcodeRows :
    ∃ (w : CmdWord) (i j : Instr), w &&& (opcodeRow i).2 = (opcodeRow i).1 ∧ w &&& (opcodeRow j).2 = (opcodeRow j).1 :=
  ⟨0x021700, .rd .packetByte5, .rd .firmwareId, by decide⟩

/-- The smallest illegal code of POWER beside the largest legal one. -/
theorem witness_IllegalWordAnswersIllegalCommand_illegal :
    ∃ (s : State) (w : CmdWord) (rest : List HostEvent), s.busy = false ∧ s.cfg.fields = fieldTable ∧ notReset s ∧
      s.hostIn = .command w :: rest ∧ illegalFields (opByte w) (aByte w) (bByte w) :=
  ⟨{ re1 [] with hostIn := [.command 0x050003] }, 0x050003, [], rfl, rfl, rfl, rfl, by unfold illegalFields; decide⟩

theorem witness_IllegalWordAnswersIllegalCommand_legal :
    ∃ (s : State) (w : CmdWord) (rest : List HostEvent), s.busy = false ∧ s.cfg.fields = fieldTable ∧ notReset s ∧
      s.hostIn = .command w :: rest ∧ ¬ illegalFields (opByte w) (aByte w) (bByte w) :=
  ⟨{ re1 [] with hostIn := [.command 0x050002], resetIn := [false, true] }, 0x050002, [], rfl, rfl, rfl, rfl, by unfold illegalFields; decide⟩

theorem witness_StepRunsTheCommandPresented :
    (∃ (s : State) (rest : List HostEvent) (w : CmdWord) (i : Instr), s.busy = false ∧ notReset s ∧
      s.hostIn = .command w :: rest ∧ decodeWith s.cfg.fields w = .ok i) ∧
    (∃ (s : State) (rest : List HostEvent), s.busy = false ∧ notReset s ∧ s.hostIn ≠ [] ∧ nothingPresented s rest) ∧
    (∃ (s : State) (rest : List HostEvent), s.busy = false ∧ notReset s ∧ s.hostIn = [] ∧ nothingPresented s rest) :=
  ⟨⟨{ re1 [] with hostIn := [.command 0x021700, .idle] }, [.idle], 0x021700, .rd .packetByte5, rfl, rfl, rfl, rfl⟩,
    ⟨{ re1 [] with hostIn := [.idle, .command 0x021700] }, [.command 0x021700], rfl, rfl, by decide, .inr rfl⟩,
    ⟨re1 [], [], rfl, rfl, rfl, .inl ⟨rfl, rfl⟩⟩⟩

/-- Seven answers, of which CLRST takes one. -/
theorem witness_AcceptedCommandAnswersExactlyOnce :
    ∃ (s : State) (answers rest : List BusAnswer), s.busy = false ∧ s.busIn = answers ++ rest ∧ answers.length = 7 ∧
      ∀ a ∈ answers, a ∉ noAnswer :=
  ⟨rn0 [.ok 1, .ok 2, .ok 3, .ok 4, .ok 5, .ok 6, .err, .stall], [.ok 1, .ok 2, .ok 3, .ok 4, .ok 5, .ok 6, .err], [.stall],
    rfl, rfl, rfl, by decide⟩

/-- Also of CommandWithoutResponseIsWaiting, CommandMakesAtMostSevenTransactions and TmpAtAcceptanceHasNoEffect. -/
theorem witness_idle : ∃ s : State, s.busy = false := ⟨re1 [], rfl⟩

/-- A block busy with SET.POWER, its read answered and its write under way. -/
def waiting : State :=
  { rn1 [] with
    busy := true, tmp := 0x03, hostIn := [.command 0x0D0000], traffic := [R 0xA3 0x03]
    inFlight := some ⟨.setPower 2, [.byte 0x03], some (.write 0x2A [0x83, 0x05])⟩ }

theorem witness_BusyPortKeepsTheCommandPending :
    (∃ (s : State) (rest : List HostEvent) (f : InFlight), s.busy = true ∧ s.inFlight = some f ∧ notReset s ∧
      (∃ w later, s.hostIn = .command w :: later ∧ rest = s.hostIn) ∧ ∃ i, i ≠ f.cmd) ∧
    (∃ (s : State) (rest : List HostEvent) (f : InFlight), s.busy = true ∧ s.inFlight = some f ∧ notReset s ∧
      nothingPresented s rest) :=
  ⟨⟨waiting, [.command 0x0D0000], _, rfl, rfl, rfl, ⟨0x0D0000, [], rfl, rfl⟩, .devid, by decide⟩,
    ⟨{ waiting with hostIn := [.idle] }, [], _, rfl, rfl, rfl, .inr rfl⟩⟩

/-- SET.POWER, hanging at its write, while DEVID is pending. -/
theorem witness_TransactionThatNeverReturnsIsAHang :
    ∃ (i : Instr) (s t0 : State) (waits rest : List BusAnswer), s.busy = false ∧ exec i s = .next t0 ∧ t0.busy = true ∧
      t0.busIn = waits ++ rest ∧ (∀ a ∈ waits, a ∈ noAnswer) ∧ (∀ r ∈ t0.resetIn.take waits.length, r = false) ∧ waits ≠ [] :=
  ⟨.setPower 2,
    { rn1 [.ok 3, .stall, .stall, .later, .ok 0] with hostIn := [.command 0x0D0000], resetIn := [false, false, true] }, _,
    [.stall, .later], [.ok 0], rfl, rfl, rfl, rfl, by decide, by decide, by decide⟩

theorem witness_WaitingForTheTransportChangesNothingElse :
    ∃ (i : Instr) (s t : State) (pre post : List BusAnswer) (a : BusAnswer), s.busy = false ∧ s.busIn = pre ++ a :: post ∧
      a ∈ noAnswer ∧ (∀ b ∈ pre, b ∉ noAnswer) ∧ exec i s = .next t ∧ t.busy = true :=
  ⟨.setPower 2, rn1 [.ok 0x03, .stall, .ok 0], _, [.ok 0x03], [.ok 0], .stall, rfl, rfl, by decide, by decide, rfl,
    by decide⟩

theorem witness_FirstBusErrorEndsTheCommand :
    ∃ (i : Instr) (s t : State) (w : RespWord), s.busy = false ∧ exec i s = .next t ∧ t.responses = s.responses ++ [w] ∧
      codeOf w = 2 := ⟨.setPower 2, rn1 [.ok 0x03, .err], _, 0x2000000000, rfl, rfl, by decide, by decide⟩

theorem witness_GateAnswersWrongMode_shut : ∃ (i : Instr) (s : State), s.busy = false ∧ ¬ existsIn i s :=
  ⟨.reldata, ae1 [], rfl, by simp [existsIn, ae1, blk]⟩
theorem witness_GateAnswersWrongMode_open : ∃ (i : Instr) (s : State), s.busy = false ∧ existsIn i s :=
  ⟨.absdata, ae1 [], rfl, rfl, rfl, rfl⟩

theorem witness_RdAnswersTheByteRead :
    (∃ (s s1 : State) (b : Byte), s.busy = false ∧ s.drawBus = (.ok b, s1)) ∧
    (∃ (s s1 : State), s.busy = false ∧ s.drawBus = (.err, s1)) :=
  ⟨⟨rn0 [.ok 0xFF], _, 0xFF, rfl, rfl⟩, ⟨rn0 [.err], _, rfl, rfl⟩⟩

theorem witness_WrWritesTheByteOrRefuses :
    (∃ (r : ChipReg) (s : State), s.busy = false ∧ ¬ writable s.cfg r) ∧
    (∃ (r : ChipReg) (s s1 : State) (b : Byte), s.busy = false ∧ writable s.cfg r ∧ r.addr = 0x04 ∧
      s.drawBus = (.ok b, s1)) ∧
    (∃ (r : ChipReg) (s s1 : State), s.busy = false ∧ writable s.cfg r ∧ r.addr ≠ 0x04 ∧ s.drawBus = (.err, s1)) :=
  ⟨⟨.firmwareVersion, re1 [], rfl, by decide⟩, ⟨.feedConfig1, re1 [.ok 0], _, 0, rfl, by decide, rfl, rfl⟩,
    ⟨.status1, re1 [.err], _, rfl, by decide, by decide, rfl⟩⟩

theorem witness_ClrstWritesZeroToStatus1 :
    (∃ (s s1 : State) (b : Byte), s.busy = false ∧ writable s.cfg .status1 ∧ s.drawBus = (.ok b, s1)) ∧
    (∃ (s s1 : State), s.busy = false ∧ writable s.cfg .status1 ∧ s.drawBus = (.err, s1)) ∧
    (∃ s : State, s.busy = false ∧ ¬ writable s.cfg .status1) :=
  ⟨⟨rn0 [.ok 0], _, 0, rfl, by decide, rfl⟩, ⟨rn0 [.err], _, rfl, by decide, rfl⟩,
    ⟨{ rn0 [] with cfg := cfgStatusLocked }, rfl, by decide⟩⟩

/-- Its hypotheses are those of RD. -/
theorem witness_DevidAnswersTheFirmwareId :
    (∃ (s s1 : State) (b : Byte), s.busy = false ∧ s.drawBus = (.ok b, s1)) ∧
    (∃ (s s1 : State), s.busy = false ∧ s.drawBus = (.err, s1)) := witness_RdAnswersTheByteRead

/-- The last declared code of TAP and the undeclared one after it. -/
theorem witness_GetAnswersTheFieldOfTheByteRead :
    (∃ (f : Field) (s : State), s.busy = false ∧ ¬ fieldExists f s) ∧
    (∃ (f : Field) (s s1 : State), s.busy = false ∧ fieldExists f s ∧ s.drawBus = (.err, s1)) ∧
    (∃ (f : Field) (s s1 : State) (p : Byte), s.busy = false ∧ fieldExists f s ∧ s.drawBus = (.ok p, s1) ∧
      (p &&& (s.cfg.fields.get f).mask) >>> (s.cfg.fields.get f).shift ∈ (s.cfg.fields.get f).codes) ∧
    (∃ (f : Field) (s s1 : State) (p : Byte), s.busy = false ∧ fieldExists f s ∧ s.drawBus = (.ok p, s1) ∧
      (p &&& (s.cfg.fields.get f).mask) >>> (s.cfg.fields.get f).shift ∉ (s.cfg.fields.get f).codes) :=
  ⟨⟨.tap, ae1 [], rfl, by decide⟩, ⟨.power, rn0 [.err], _, rfl, by decide, rfl⟩,
    ⟨.tap, rn1 [.ok 0x04], _, 0x04, rfl, by decide, rfl, by decide⟩,
    ⟨.tap, rn1 [.ok 0x06], _, 0x06, rfl, by decide, rfl, by decide⟩⟩

theorem witness_GettersReadTheBitsOfTheFieldTable :
    ∃ (s s1 : State) (p : Byte), s.busy = false ∧ s.cfg.fields = fieldTable ∧ s.cfg.framing = .marked ∧ s.synced = true ∧
      s.tagPos = .relative ∧ s.drawBus = (.ok p, s1) := ⟨rn1 [.ok 0x06], _, 0x06, rfl, rfl, rfl, rfl, rfl, rfl⟩

theorem witness_SetWritesTheByteComposedFromTmp :
    (∃ (f : Field) (c : Byte) (i : Instr) (s : State), setterOf f c = some i ∧ s.busy = false ∧
      c ∈ (s.cfg.fields.get f).codes ∧ ¬ fieldExists f s) ∧
    (∃ (f : Field) (c : Byte) (i : Instr) (s : State), setterOf f c = some i ∧ s.busy = false ∧
      c ∈ (s.cfg.fields.get f).codes ∧ fieldExists f s ∧
      ¬ writable s.cfg (s.cfg.fields.get f).reg) ∧
    (∃ (f : Field) (c : Byte) (i : Instr) (s s1 : State), setterOf f c = some i ∧ s.busy = false ∧
      c ∈ (s.cfg.fields.get f).codes ∧ fieldExists f s ∧
      writable s.cfg (s.cfg.fields.get f).reg ∧ s.drawBus = (.err, s1)) ∧
    (∃ (f : Field) (c : Byte) (i : Instr) (s s1 s2 : State) (p : Byte), setterOf f c = some i ∧ s.busy = false ∧
      c ∈ (s.cfg.fields.get f).codes ∧ fieldExists f s ∧ writable s.cfg (s.cfg.fields.get f).reg ∧ s.drawBus = (.ok p, s1) ∧ s1.drawBus = (.err, s2)) ∧
    (∃ (f : Field) (c : Byte) (i : Instr) (s s1 s2 : State) (p q : Byte), setterOf f c = some i ∧ s.busy = false ∧
      c ∈ (s.cfg.fields.get f).codes ∧ fieldExists f s ∧ writable s.cfg (s.cfg.fields.get f).reg ∧ s.drawBus = (.ok p, s1) ∧ s1.drawBus = (.ok q, s2)) :=
  ⟨⟨.glide, 1, .setGlide 1, ae1 [], rfl, rfl, by decide, by decide⟩,
    ⟨.power, 2, .setPower 2, { rn0 [] with cfg := cfgLocked }, rfl, rfl, by decide, by decide, by decide⟩,
    ⟨.filter, 0, .setFilter 0, rn0 [.err], _, rfl, rfl, by decide, by decide, by decide, rfl⟩,
    ⟨.tap, 2, .setTap 2, rn1 [.ok 0xFF, .err], _, _, 0xFF, rfl, rfl, by decide, by decide, by decide, rfl, rfl⟩,
    ⟨.axisInv, 3, .setAxisInv 3, re1 [.ok 0x01, .ok 0], _, _, 0x01, 0, rfl, rfl, by decide, by decide, by decide, rfl, rfl⟩⟩

theorem witness_SettersWriteTheBytesOfTheFieldTable :
    ∃ (c : Byte) (s s1 s2 : State) (p q : Byte), c.toNat ≤ 1 ∧ s.busy = false ∧ s.cfg.fields = fieldTable ∧
      s.cfg.readOnly = [.firmwareId, .firmwareVersion] ∧ s.cfg.framing = .marked ∧ s.synced = true ∧
      s.tagPos = .relative ∧ s.drawBus = (.ok p, s1) ∧ s1.drawBus = (.ok q, s2) :=
  ⟨1, rn1 [.ok 0xFF, .ok 0], _, _, 0xFF, 0, by decide, rfl, rfl, rfl, rfl, rfl, rfl, rfl, rfl⟩

theorem witness_UpdateKeepsEveryBitOutsideTheMask :
    ∃ (sp : FieldSpec) (c : Byte), sp.wf = true ∧ c ∈ sp.codes := ⟨fieldTable.axisInv, 3, by decide⟩

theorem witness_UpdateKeepsTheOtherFields :
    ∃ (ft : FieldTable) (f g : Field), ft.wf = true ∧ f ≠ g ∧ (ft.get f).reg = (ft.get g).reg :=
  ⟨fieldTable, .feed, .axisInv, by decide⟩

theorem witness_FieldCodecRoundTripsAndRejects :
    ∃ sp : FieldSpec, sp.wf = true ∧ (∃ c : Byte, c ∉ sp.codes) ∧
      ∃ (c d : Byte) (v : Variant), decodeField sp c = some v ∧ decodeField sp d = some v :=
  ⟨fieldTable.power, by decide, ⟨3, by decide⟩, 2, 2, .sleep, by decide⟩

theorem witness_InitReachesRelativeNoFeed :
    (∃ s : State, s.busy = false ∧ ¬ writable s.cfg s.cfg.fields.feed.reg) ∧
    (∃ s s1 : State, s.busy = false ∧ writable s.cfg s.cfg.fields.feed.reg ∧ s.drawBus = (.err, s1)) ∧
    (∃ (s s1 s2 : State) (p : Byte), s.busy = false ∧ writable s.cfg s.cfg.fields.feed.reg ∧ s.drawBus = (.ok p, s1) ∧
      s1.drawBus = (.err, s2)) ∧
    (∃ (s s1 s2 : State) (p q : Byte), s.busy = false ∧ writable s.cfg s.cfg.fields.feed.reg ∧ s.drawBus = (.ok p, s1) ∧
      s1.drawBus = (.ok q, s2) ∧ ¬ writable s.cfg s.cfg.fields.pos.reg) ∧
    (∃ (s s1 s2 s3 : State) (p q : Byte), s.busy = false ∧ writable s.cfg s.cfg.fields.feed.reg ∧
      s.drawBus = (.ok p, s1) ∧ s1.drawBus = (.ok q, s2) ∧ writable s.cfg s.cfg.fields.pos.reg ∧ s2.drawBus = (.err, s3)) ∧
    (∃ (s s1 s2 s3 s4 : State) (p q p2 : Byte), s.busy = false ∧ writable s.cfg s.cfg.fields.feed.reg ∧
      s.drawBus = (.ok p, s1) ∧ s1.drawBus = (.ok q, s2) ∧ writable s.cfg s.cfg.fields.pos.reg ∧
      s2.drawBus = (.ok p2, s3) ∧ s3.drawBus = (.err, s4)) ∧
    (∃ (s s1 s2 s3 s4 : State) (p q p2 q2 : Byte), s.busy = false ∧ writable s.cfg s.cfg.fields.feed.reg ∧
      s.drawBus = (.ok p, s1) ∧ s1.drawBus = (.ok q, s2) ∧ writable s.cfg s.cfg.fields.pos.reg ∧
      s2.drawBus = (.ok p2, s3) ∧ s3.drawBus = (.ok q2, s4)) :=
  ⟨⟨{ ae1 [] with cfg := cfgLocked }, rfl, by decide⟩,
    ⟨ae1 [.err], _, rfl, by decide, rfl⟩,
    ⟨ae1 [.ok 3, .err], _, _, 3, rfl, by decide, rfl, rfl⟩,
    ⟨{ rn0 [.ok 1, .ok 0] with cfg := cfgPosLocked }, _, _, 1, 0, rfl, by decide, rfl, rfl, by decide⟩,
    ⟨ae1 [.ok 3, .ok 0, .err], _, _, _, 3, 0, rfl, by decide, rfl, rfl, by decide, rfl⟩,
    ⟨ae1 [.ok 3, .ok 0, .ok 2, .err], _, _, _, _, 3, 0, 2, rfl, by decide, rfl, rfl, by decide, rfl, rfl⟩,
    ⟨ae1 [.ok 3, .ok 0, .ok 2, .ok 0], _, _, _, _, 3, 0, 2, 0, rfl, by decide, rfl, rfl, by decide, rfl, rfl⟩⟩

theorem witness_EnableSwitchesTheFeedOn :
    (∃ s : State, s.busy = false ∧ ¬ (s.synced = true ∧ s.tagFeed = .noFeed)) ∧
    (∃ s s1 : State, s.busy = false ∧ (s.synced = true ∧ s.tagFeed = .noFeed) ∧
      writable s.cfg s.cfg.fields.feed.reg ∧ s.drawBus = (.err, s1)) ∧
    (∃ (s s1 s2 : State) (p : Byte), s.busy = false ∧ (s.synced = true ∧ s.tagFeed = .noFeed) ∧
      writable s.cfg s.cfg.fields.feed.reg ∧ s.drawBus = (.ok p, s1) ∧ s1.drawBus = (.err, s2)) ∧
    (∃ (s s1 s2 s3 : State) (p q : Byte), s.busy = false ∧ (s.synced = true ∧ s.tagFeed = .noFeed) ∧
      writable s.cfg s.cfg.fields.feed.reg ∧ writable s.cfg .status1 ∧ s.drawBus = (.ok p, s1) ∧
      s1.drawBus = (.ok q, s2) ∧ s2.drawBus = (.err, s3)) ∧
    (∃ (s s1 s2 s3 : State) (p q q2 : Byte), s.busy = false ∧ (s.synced = true ∧ s.tagFeed = .noFeed) ∧
      writable s.cfg s.cfg.fields.feed.reg ∧ writable s.cfg .status1 ∧ s.drawBus = (.ok p, s1) ∧
      s1.drawBus = (.ok q, s2) ∧ s2.drawBus = (.ok q2, s3)) :=
  ⟨⟨re1 [], rfl, by decide⟩,
    ⟨rn1 [.err], _, rfl, ⟨rfl, rfl⟩, by decide, rfl⟩,
    ⟨rn1 [.ok 0, .err], _, _, 0, rfl, ⟨rfl, rfl⟩, by decide, rfl, rfl⟩,
    ⟨rn1 [.ok 0, .ok 0, .err], _, _, _, 0, 0, rfl, ⟨rfl, rfl⟩, by decide, by decide, rfl, rfl, rfl⟩,
    ⟨rn1 [.ok 0, .ok 0, .ok 0], _, _, _, 0, 0, 0, rfl, ⟨rfl, rfl⟩, by decide, by decide, rfl, rfl, rfl⟩⟩

/-- One witness for each command and each outcome: DISABLE, TOABS, TOREL. -/
theorem witness_DisableToabsTorelMoveOneTagBit :
    (∃ s : State, s.busy = false ∧ ¬ (s.synced = true ∧ s.tagPos = .absolute ∧ s.tagFeed = .enabled)) ∧
    (∃ s s1 : State, s.busy = false ∧ s.synced = true ∧ s.tagFeed = .enabled ∧ writable s.cfg s.cfg.fields.feed.reg ∧
      s.drawBus = (.err, s1)) ∧
    (∃ (s s1 s2 : State) (p : Byte), s.busy = false ∧ s.synced = true ∧ s.tagFeed = .enabled ∧ s.tagPos = .relative ∧
      writable s.cfg s.cfg.fields.pos.reg ∧ s.drawBus = (.ok p, s1) ∧ s1.drawBus = (.err, s2)) ∧
    (∃ (s s1 s2 : State) (p q : Byte), s.busy = false ∧ s.synced = true ∧ s.tagFeed = .enabled ∧ s.tagPos = .absolute ∧
      writable s.cfg s.cfg.fields.pos.reg ∧ s.drawBus = (.ok p, s1) ∧ s1.drawBus = (.ok q, s2)) :=
  ⟨⟨blk .absolute .noFeed true [], rfl, by decide⟩, ⟨ae1 [.err], _, rfl, rfl, rfl, by decide, rfl⟩,
    ⟨re1 [.ok 1, .err], _, _, 1, rfl, rfl, rfl, rfl, by decide, rfl, rfl⟩,
    ⟨ae1 [.ok 3, .ok 0], _, _, 3, 0, rfl, rfl, rfl, rfl, by decide, rfl, rfl⟩⟩

theorem witness_FailedTransitionClearsSynced :
    (∃ (i : Instr) (s t : State) (w : RespWord), i ∈ transitions ∧ s.busy = false ∧ existsIn i s ∧ exec i s = .next t ∧
      t.responses = s.responses ++ [w] ∧ codeOf w = 2) ∧
    (∃ (i : Instr) (s t : State) (w : RespWord), i ∈ transitions ∧ s.busy = false ∧ existsIn i s ∧ exec i s = .next t ∧
      t.responses = s.responses ++ [w] ∧ codeOf w = 4) ∧
    (∃ (i : Instr) (s : State), i ∈ transitions ∧ s.busy = false ∧ ¬ existsIn i s) ∧
    (∃ (i : Instr) (s t : State), exec i s = .next t ∧ s.synced = false ∧ t.synced = true) :=
  ⟨⟨.toabs, re1 [.err], _, 0x2000000000, by decide, rfl, ⟨rfl, rfl, rfl⟩, rfl, by decide, by decide⟩,
    ⟨.toabs, { re1 [] with cfg := cfgLocked }, _, 0x4000000000, by decide, rfl, ⟨rfl, rfl, rfl⟩, rfl, by decide, by decide⟩,
    ⟨.toabs, ae1 [], by decide, rfl, by simp [existsIn, ae1, blk]⟩,
    ⟨.init, rn0 [.ok 3, .ok 0, .ok 2, .ok 0], _, rfl, rfl, by decide⟩⟩

theorem witness_ReadOnlyFieldRefusesTheTransition :
    (∃ (i : Instr) (s : State), s.busy = false ∧ existsIn i s ∧ i ∈ [Instr.enable, .disable] ∧
      ¬ writable s.cfg s.cfg.fields.feed.reg) ∧
    (∃ (i : Instr) (s : State), s.busy = false ∧ existsIn i s ∧ i ∈ [Instr.toabs, .torel] ∧
      ¬ writable s.cfg s.cfg.fields.pos.reg) ∧
    (∃ (s s1 s2 : State) (p q : Byte), s.busy = false ∧ existsIn .enable s ∧ writable s.cfg s.cfg.fields.feed.reg ∧
      ¬ writable s.cfg .status1 ∧ s.drawBus = (.ok p, s1) ∧ s1.drawBus = (.ok q, s2)) :=
  ⟨⟨.disable, { ae1 [] with cfg := cfgLocked }, rfl, ⟨rfl, rfl⟩, by decide, by decide⟩,
    ⟨.torel, { ae1 [] with cfg := cfgLocked }, rfl, ⟨rfl, rfl, rfl⟩, by decide, by decide⟩,
    ⟨{ rn1 [.ok 1, .ok 0] with cfg := cfgStatusLocked }, _, _, 1, 0, rfl, ⟨rfl, rfl⟩, by decide, by decide, rfl, rfl⟩⟩

/-- Also of EveryStepKeepsTheStateSound: a step that goes on with a command in flight, and one that starts INIT. -/
theorem witness_TagMovesOnlyAlongTheTagGraph :
    (∃ (i : Instr) (s t : State), s.sound = true ∧ exec i s = .next t ∧ s.busy = true) ∧
    (∃ (i : Instr) (s t : State), s.sound = true ∧ exec i s = .next t ∧ t.tagFeed ≠ s.tagFeed) :=
  ⟨⟨.setPower 2, waiting, _, by decide, rfl, rfl⟩,
    ⟨.disable, ae1 [.ok 3, .ok 0], _, by decide, rfl, by decide⟩⟩

theorem witness_OnlyInitSetsSynced :
    (∃ s t : State, step s = .next t ∧ s.synced = false ∧ t.synced = true) ∧
    (∃ s t : State, step s = .next t ∧ s.synced = true ∧ t.synced = false) :=
  ⟨⟨(rn0 [.ok 3, .ok 0, .ok 2, .ok 0]).withFetchWord 24 0x010000, _, rfl, rfl, by decide⟩,
    ⟨(re1 [.ok 0]).withFetchWord 24 0x030401, _, rfl, rfl, by decide⟩⟩

/-- The second read brings the byte the first write left. -/
theorem witness_InitLeavesFeedConfig1MaskedByFC :
    ∃ (s s1 s2 s3 s4 : State) (p q q2 : Byte), s.busy = false ∧ s.cfg.fields = fieldTable ∧ writable s.cfg .feedConfig1 ∧
      s.drawBus = (.ok p, s1) ∧ s1.drawBus = (.ok q, s2) ∧ s2.drawBus = (.ok (p &&& 0xFE), s3) ∧ s3.drawBus = (.ok q2, s4) :=
  ⟨rn0 [.ok 0xFF, .ok 0, .ok 0xFE, .ok 0], _, _, _, _, 0xFF, 0, 0, rfl, rfl, by decide, rfl, rfl, rfl, rfl⟩

/-- RELDATA with and without the line, the clear succeeding and failing. -/
theorem witness_ReldataAnswersTheSample :
    (∃ (s s0 s1 s2 s3 s4 s5 : State) (es : List BusEvent) (st b0 b1 b2 q : Byte), s.busy = false ∧ s.synced = true ∧
      s.tagPos = .relative ∧ s.tagFeed = .enabled ∧ writable s.cfg .status1 ∧ lineLets s s0 es ∧
      s0.drawBus = (.ok st, s1) ∧ st &&& s.cfg.drMask ≠ 0 ∧ s1.drawBus = (.ok b0, s2) ∧ s2.drawBus = (.ok b1, s3) ∧
      s3.drawBus = (.ok b2, s4) ∧ s4.drawBus = (.ok q, s5)) ∧
    (∃ (s s0 s1 s2 s3 s4 s5 : State) (es : List BusEvent) (st b0 b1 b2 : Byte), s.busy = false ∧ s.synced = true ∧
      s.tagPos = .relative ∧ s.tagFeed = .enabled ∧ writable s.cfg .status1 ∧ lineLets s s0 es ∧
      s0.drawBus = (.ok st, s1) ∧ st &&& s.cfg.drMask ≠ 0 ∧ s1.drawBus = (.ok b0, s2) ∧ s2.drawBus = (.ok b1, s3) ∧
      s3.drawBus = (.ok b2, s4) ∧ s4.drawBus = (.err, s5)) :=
  ⟨⟨line .high (re1 [.ok 4, .ok 0x21, .ok 0x0A, .ok 0x05, .ok 0]), _, _, _, _, _, _, [.pin .high], 4, 0x21, 0x0A, 0x05, 0,
      rfl, rfl, rfl, rfl, by decide, .inr ⟨rfl, rfl, rfl⟩, rfl, by decide, rfl, rfl, rfl, rfl⟩,
    ⟨re1 [.ok 4, .ok 0x21, .ok 0x0A, .ok 0x05, .err], _, _, _, _, _, _, [], 4, 0x21, 0x0A, 0x05,
      rfl, rfl, rfl, rfl, by decide, .inl ⟨rfl, rfl, rfl⟩, rfl, by decide, rfl, rfl, rfl, rfl⟩⟩

/-- ABSDATA, the clear succeeding and failing, the clamp off. -/
theorem witness_AbsdataAnswersTheSample :
    (∃ (s s0 s1 s2 s3 s4 s5 s6 s7 : State) (es : List BusEvent) (st bb xl yl hn zb q : Byte), s.busy = false ∧
      s.synced = true ∧ s.tagPos = .absolute ∧ s.tagFeed = .enabled ∧ writable s.cfg .status1 ∧
      s.cfg.clampEnable = false ∧ lineLets s s0 es ∧ s0.drawBus = (.ok st, s1) ∧ st &&& s.cfg.drMask ≠ 0 ∧
      s1.drawBus = (.ok bb, s2) ∧ s2.drawBus = (.ok xl, s3) ∧ s3.drawBus = (.ok yl, s4) ∧ s4.drawBus = (.ok hn, s5) ∧
      s5.drawBus = (.ok zb, s6) ∧ s6.drawBus = (.ok q, s7)) ∧
    (∃ (s s0 s1 s2 s3 s4 s5 s6 s7 : State) (es : List BusEvent) (st bb xl yl hn zb : Byte), s.busy = false ∧
      s.synced = true ∧ s.tagPos = .absolute ∧ s.tagFeed = .enabled ∧ writable s.cfg .status1 ∧
      s.cfg.clampEnable = false ∧ lineLets s s0 es ∧ s0.drawBus = (.ok st, s1) ∧ st &&& s.cfg.drMask ≠ 0 ∧
      s1.drawBus = (.ok bb, s2) ∧ s2.drawBus = (.ok xl, s3) ∧ s3.drawBus = (.ok yl, s4) ∧ s4.drawBus = (.ok hn, s5) ∧
      s5.drawBus = (.ok zb, s6) ∧ s6.drawBus = (.err, s7)) :=
  ⟨⟨ae1 [.ok 4, .ok 0x3F, .ok 0x10, .ok 0x20, .ok 0x34, .ok 8, .ok 0], _, _, _, _, _, _, _, _, [], 4, 0x3F, 0x10, 0x20,
      0x34, 8, 0, rfl, rfl, rfl, rfl, by decide, rfl, .inl ⟨rfl, rfl, rfl⟩, rfl, by decide, rfl, rfl, rfl, rfl, rfl, rfl⟩,
    ⟨line .high (ae1 [.ok 0xFF, .ok 0xFF, .ok 0xFF, .ok 0xFF, .ok 0xFF, .ok 0xFF, .err]), _, _, _, _, _, _, _, _,
      [.pin .high], 0xFF, 0xFF, 0xFF, 0xFF, 0xFF, 0xFF, rfl, rfl, rfl, rfl, by decide, rfl, .inr ⟨rfl, rfl, rfl⟩, rfl,
      by decide, rfl, rfl, rfl, rfl, rfl, rfl⟩⟩

/-- X above its range, Y below: the clear succeeding and failing. -/
theorem witness_AbsdataAnswersTheClampedSample :
    (∃ (s s0 s1 s2 s3 s4 s5 s6 s7 : State) (es : List BusEvent) (st bb xl yl hn zb q : Byte) (x y : BitVec 12),
      s.busy = false ∧ s.synced = true ∧ s.tagPos = .absolute ∧ s.tagFeed = .enabled ∧ writable s.cfg .status1 ∧
      s.cfg.clampEnable = true ∧ lineLets s s0 es ∧ s0.drawBus = (.ok st, s1) ∧ st &&& s.cfg.drMask ≠ 0 ∧
      s1.drawBus = (.ok bb, s2) ∧ s2.drawBus = (.ok xl, s3) ∧ s3.drawBus = (.ok yl, s4) ∧ s4.drawBus = (.ok hn, s5) ∧
      s5.drawBus = (.ok zb, s6) ∧
      x.toNat = min (max (hn.extractLsb' 0 4 ++ xl : BitVec 12).toNat s.cfg.xLower.toNat) s.cfg.xUpper.toNat ∧
      y.toNat = min (max (hn.extractLsb' 4 4 ++ yl : BitVec 12).toNat s.cfg.yLower.toNat) s.cfg.yUpper.toNat ∧
      s6.drawBus = (.ok q, s7)) ∧
    (∃ (s s0 s1 s2 s3 s4 s5 s6 s7 : State) (es : List BusEvent) (st bb xl yl hn zb : Byte) (x y : BitVec 12),
      s.busy = false ∧ s.synced = true ∧ s.tagPos = .absolute ∧ s.tagFeed = .enabled ∧ writable s.cfg .status1 ∧
      s.cfg.clampEnable = true ∧ lineLets s s0 es ∧ s0.drawBus = (.ok st, s1) ∧ st &&& s.cfg.drMask ≠ 0 ∧
      s1.drawBus = (.ok bb, s2) ∧ s2.drawBus = (.ok xl, s3) ∧ s3.drawBus = (.ok yl, s4) ∧ s4.drawBus = (.ok hn, s5) ∧
      s5.drawBus = (.ok zb, s6) ∧
      x.toNat = min (max (hn.extractLsb' 0 4 ++ xl : BitVec 12).toNat s.cfg.xLower.toNat) s.cfg.xUpper.toNat ∧
      y.toNat = min (max (hn.extractLsb' 4 4 ++ yl : BitVec 12).toNat s.cfg.yLower.toNat) s.cfg.yUpper.toNat ∧
      s6.drawBus = (.err, s7)) :=
  ⟨⟨{ ae1 [.ok 4, .ok 0x3F, .ok 0x10, .ok 0x3F, .ok 0x0F, .ok 8, .ok 0] with cfg := cfgClamp }, _, _, _, _, _, _, _, _, [],
      4, 0x3F, 0x10, 0x3F, 0x0F, 8, 0, 1920, 64, rfl, rfl, rfl, rfl, by decide, rfl, .inl ⟨rfl, rfl, rfl⟩, rfl, by decide,
      rfl, rfl, rfl, rfl, rfl, by decide, by decide, rfl⟩,
    ⟨{ ae1 [.ok 4, .ok 0x3F, .ok 0x10, .ok 0x3F, .ok 0x0F, .ok 8, .err] with cfg := cfgClamp }, _, _, _, _, _, _, _, _, [],
      4, 0x3F, 0x10, 0x3F, 0x0F, 8, 1920, 64, rfl, rfl, rfl, rfl, by decide, rfl, .inl ⟨rfl, rfl, rfl⟩, rfl, by decide,
      rfl, rfl, rfl, rfl, rfl, by decide, by decide, rfl⟩⟩

/-- The integrated parameters, in which the line is free: the ready states are given the line the parameters say there is. -/
theorem witness_DataCommandsReadTheirPacketBytes :
    (∀ pos : PosMode, ∃ (s s0 s1 : State) (es : List BusEvent) (st : Byte), s.busy = false ∧ s.cfg = State.reset.cfg ∧
      s.synced = true ∧ s.tagFeed = .enabled ∧ lineLets s s0 es ∧ s0.drawBus = (.ok st, s1) ∧ st.getLsbD 2 = false ∧
      s.tagPos = pos) ∧
    (∃ (s s0 s1 s2 s3 s4 s5 : State) (es : List BusEvent) (st a b c q : Byte), s.busy = false ∧ s.cfg = State.reset.cfg ∧
      s.synced = true ∧ s.tagFeed = .enabled ∧ lineLets s s0 es ∧ s0.drawBus = (.ok st, s1) ∧ st.getLsbD 2 = true ∧
      s1.drawBus = (.ok a, s2) ∧ s2.drawBus = (.ok b, s3) ∧ s3.drawBus = (.ok c, s4) ∧ s.tagPos = .relative ∧
      s4.drawBus = (.ok q, s5)) ∧
    (∃ (s s0 s1 s2 s3 s4 s5 s6 s7 : State) (es : List BusEvent) (st a b c d e q : Byte), s.busy = false ∧
      s.cfg = State.reset.cfg ∧ s.synced = true ∧ s.tagFeed = .enabled ∧ lineLets s s0 es ∧ s0.drawBus = (.ok st, s1) ∧
      st.getLsbD 2 = true ∧ s1.drawBus = (.ok a, s2) ∧ s2.drawBus = (.ok b, s3) ∧ s3.drawBus = (.ok c, s4) ∧
      s.tagPos = .absolute ∧ s4.drawBus = (.ok d, s5) ∧ s5.drawBus = (.ok e, s6) ∧ s6.drawBus = (.ok q, s7)) := by
  cases hl : State.reset.cfg.hasReadyPin
  · exact ⟨fun pos => ⟨{ blk pos .enabled true [.ok 0xFB] with cfg := State.reset.cfg }, _, _, [], 0xFB, rfl, rfl, rfl, rfl,
        .inl ⟨hl, rfl, rfl⟩, rfl, by decide, rfl⟩,
      ⟨{ re1 [.ok 4, .ok 1, .ok 2, .ok 3, .ok 0] with cfg := State.reset.cfg }, _, _, _, _, _, _, [], 4, 1, 2, 3, 0,
        rfl, rfl, rfl, rfl, .inl ⟨hl, rfl, rfl⟩, rfl, by decide, rfl, rfl, rfl, rfl, rfl⟩,
      ⟨{ ae1 [.ok 4, .ok 1, .ok 2, .ok 3, .ok 4, .ok 5, .ok 0] with cfg := State.reset.cfg }, _, _, _, _, _, _, _, _, [],
        4, 1, 2, 3, 4, 5, 0, rfl, rfl, rfl, rfl, .inl ⟨hl, rfl, rfl⟩, rfl, by decide, rfl, rfl, rfl, rfl, rfl, rfl, rfl⟩⟩
  · exact ⟨fun pos => ⟨{ blk pos .enabled true [.ok 0xFB] with cfg := State.reset.cfg, pinIn := [.high] }, _, _, [.pin .high],
        0xFB, rfl, rfl, rfl, rfl, .inr ⟨hl, rfl, rfl⟩, rfl, by decide, rfl⟩,
      ⟨{ re1 [.ok 4, .ok 1, .ok 2, .ok 3, .ok 0] with cfg := State.reset.cfg, pinIn := [.high] }, _, _, _, _, _, _,
        [.pin .high], 4, 1, 2, 3, 0, rfl, rfl, rfl, rfl, .inr ⟨hl, rfl, rfl⟩, rfl, by decide, rfl, rfl, rfl, rfl, rfl⟩,
      ⟨{ ae1 [.ok 4, .ok 1, .ok 2, .ok 3, .ok 4, .ok 5, .ok 0] with cfg := State.reset.cfg, pinIn := [.high] }, _, _, _, _,
        _, _, _, _, [.pin .high], 4, 1, 2, 3, 4, 5, 0, rfl, rfl, rfl, rfl, .inr ⟨hl, rfl, rfl⟩, rfl, by decide, rfl, rfl,
        rfl, rfl, rfl, rfl, rfl⟩⟩

/-- A failed read at the status, at the first and the last packet byte; the ones between differ in nothing else. -/
theorem witness_DataCommandsStopAtTheFirstFailedRead :
    (∃ (i : Instr) (s s0 s1 : State) (es : List BusEvent), s.busy = false ∧ lineLets s s0 es ∧ i ∈ dataCommands ∧
      existsIn i s ∧ s0.drawBus = (.err, s1)) ∧
    (∃ (s s0 s1 s2 s3 s4 : State) (es : List BusEvent) (st a b : Byte), s.busy = false ∧ lineLets s s0 es ∧
      existsIn .reldata s ∧ s0.drawBus = (.ok st, s1) ∧ st &&& s.cfg.drMask ≠ 0 ∧ s1.drawBus = (.ok a, s2) ∧
      s2.drawBus = (.ok b, s3) ∧ s3.drawBus = (.err, s4)) ∧
    (∃ (s s0 s1 s2 : State) (es : List BusEvent) (st : Byte), s.busy = false ∧ lineLets s s0 es ∧ existsIn .reldata s ∧
      s0.drawBus = (.ok st, s1) ∧ st &&& s.cfg.drMask ≠ 0 ∧ s1.drawBus = (.err, s2)) ∧
    (∃ (s s0 s1 s2 s3 s4 s5 s6 : State) (es : List BusEvent) (st a b c d : Byte), s.busy = false ∧ lineLets s s0 es ∧
      existsIn .absdata s ∧ s0.drawBus = (.ok st, s1) ∧ st &&& s.cfg.drMask ≠ 0 ∧ s1.drawBus = (.ok a, s2) ∧
      s2.drawBus = (.ok b, s3) ∧ s3.drawBus = (.ok c, s4) ∧ s4.drawBus = (.ok d, s5) ∧ s5.drawBus = (.err, s6)) ∧
    (∃ (s s0 s1 s2 : State) (es : List BusEvent) (st : Byte), s.busy = false ∧ lineLets s s0 es ∧ existsIn .absdata s ∧
      s0.drawBus = (.ok st, s1) ∧ st &&& s.cfg.drMask ≠ 0 ∧ s1.drawBus = (.err, s2)) :=
  ⟨⟨.reldata, line .high (re1 [.err]), _, _, [.pin .high], rfl, .inr ⟨rfl, rfl, rfl⟩, by decide, ⟨rfl, rfl, rfl⟩, rfl⟩,
    ⟨re1 [.ok 4, .ok 1, .ok 2, .err], _, _, _, _, _, [], 4, 1, 2, rfl, .inl ⟨rfl, rfl, rfl⟩, ⟨rfl, rfl, rfl⟩, rfl,
      by decide, rfl, rfl, rfl⟩,
    ⟨re1 [.ok 4, .err], _, _, _, [], 4, rfl, .inl ⟨rfl, rfl, rfl⟩, ⟨rfl, rfl, rfl⟩, rfl, by decide, rfl⟩,
    ⟨ae1 [.ok 4, .ok 1, .ok 2, .ok 3, .ok 4, .err], _, _, _, _, _, _, _, [], 4, 1, 2, 3, 4, rfl, .inl ⟨rfl, rfl, rfl⟩,
      ⟨rfl, rfl, rfl⟩, rfl, by decide, rfl, rfl, rfl, rfl, rfl⟩,
    ⟨ae1 [.ok 4, .err], _, _, _, [], 4, rfl, .inl ⟨rfl, rfl, rfl⟩, ⟨rfl, rfl, rfl⟩, rfl, by decide, rfl⟩⟩

theorem witness_ReadOnlyStatusWithholdsTheSample :
    (∃ (s s0 s1 s2 s3 s4 : State) (es : List BusEvent) (st a b c : Byte), s.busy = false ∧ ¬ writable s.cfg .status1 ∧
      lineLets s s0 es ∧ s0.drawBus = (.ok st, s1) ∧ st &&& s.cfg.drMask ≠ 0 ∧ s1.drawBus = (.ok a, s2) ∧
      s2.drawBus = (.ok b, s3) ∧ s3.drawBus = (.ok c, s4) ∧ existsIn .reldata s) ∧
    (∃ (s s0 s1 s2 s3 s4 s5 s6 : State) (es : List BusEvent) (st a b c d e : Byte), s.busy = false ∧
      ¬ writable s.cfg .status1 ∧ lineLets s s0 es ∧ s0.drawBus = (.ok st, s1) ∧ st &&& s.cfg.drMask ≠ 0 ∧
      s1.drawBus = (.ok a, s2) ∧ s2.drawBus = (.ok b, s3) ∧ s3.drawBus = (.ok c, s4) ∧ existsIn .absdata s ∧
      s4.drawBus = (.ok d, s5) ∧ s5.drawBus = (.ok e, s6)) :=
  ⟨⟨{ re1 [.ok 4, .ok 1, .ok 2, .ok 3] with cfg := cfgStatusLocked }, _, _, _, _, _, [], 4, 1, 2, 3, rfl, by decide,
      .inl ⟨rfl, rfl, rfl⟩, rfl, by decide, rfl, rfl, rfl, rfl, rfl, rfl⟩,
    ⟨{ ae1 [.ok 4, .ok 1, .ok 2, .ok 3, .ok 4, .ok 5] with cfg := cfgStatusLocked }, _, _, _, _, _, _, _, [], 4, 1, 2, 3, 4,
      5, rfl, by decide, .inl ⟨rfl, rfl, rfl⟩, rfl, by decide, rfl, rfl, rfl, ⟨rfl, rfl, rfl⟩, rfl, rfl⟩⟩

/-- The line low; the line high and every STATUS1 bit set but the data-ready bit (T43). -/
theorem witness_NotReadyAnswersNoData :
    (∃ (i : Instr) (s s0 : State), i ∈ dataCommands ∧ s.busy = false ∧ existsIn i s ∧ s.cfg.hasReadyPin = true ∧
      s.drawPin = (.low, s0)) ∧
    (∃ (i : Instr) (s s0 s1 : State) (es : List BusEvent) (st : Byte), i ∈ dataCommands ∧ s.busy = false ∧ existsIn i s ∧
      lineLets s s0 es ∧ s0.drawBus = (.ok st, s1) ∧ st &&& s.cfg.drMask = 0) :=
  ⟨⟨.absdata, line .low (ae1 []), _, by decide, rfl, ⟨rfl, rfl, rfl⟩, rfl, rfl⟩,
    ⟨.reldata, line .high (re1 [.ok 0xFB]), _, _, [.pin .high], 0xFB, by decide, rfl, ⟨rfl, rfl, rfl⟩,
      .inr ⟨rfl, rfl, rfl⟩, rfl, by decide⟩⟩

theorem witness_PinFaultAnswersPinError :
    (∃ (i : Instr) (s s0 : State), i ∈ dataCommands ∧ s.busy = false ∧ existsIn i s ∧ s.cfg.hasReadyPin = true ∧
      s.drawPin = (.fault, s0)) ∧
    (∃ (i : Instr) (s t : State) (w : RespWord), s.busy = false ∧ exec i s = .next t ∧ t.responses = s.responses ++ [w] ∧
      codeOf w = 3) :=
  ⟨⟨.reldata, line .fault (re1 []), _, by decide, rfl, ⟨rfl, rfl, rfl⟩, rfl, rfl⟩,
    ⟨.reldata, line .fault (re1 []), _, 0x3000000000, rfl, rfl, by decide, by decide⟩⟩

theorem witness_ClampBringsIntoRange :
    (∃ cfg : Params, cfg.xLower ≤ cfg.xUpper ∧ cfg.yLower ≤ cfg.yUpper ∧ cfg.clampEnable = true) ∧
    (∃ cfg : Params, cfg.xLower ≤ cfg.xUpper ∧ cfg.yLower ≤ cfg.yUpper ∧ cfg.clampEnable = false) :=
  ⟨⟨cfgClamp, by decide⟩, ⟨cfg0, by decide⟩⟩

/-- A reset of an idle block, and one while a write is under way and a command is pending. -/
theorem witness_ResetInputResetsTheBlock :
    (∃ s : State, ¬ notReset s ∧ s.inFlight = none) ∧
    (∃ (s : State) (f : InFlight), ¬ notReset s ∧ s.inFlight = some f ∧ f.waiting ≠ none ∧ s.hostIn ≠ []) :=
  ⟨⟨{ re1 [] with resetIn := [true] }, by decide, rfl⟩,
    ⟨{ waiting with resetIn := [true, false] }, _, by decide, rfl, by decide, by decide⟩⟩

/-- Both values of each register. -/
theorem witness_LevelOutputsShowTheRegisters :
    (∃ s : State, s.tagPos = .relative ∧ s.tagFeed = .noFeed ∧ s.synced = false ∧ s.busy = false) ∧
    (∃ s : State, s.tagPos = .absolute ∧ s.tagFeed = .enabled ∧ s.synced = true ∧ s.busy = true) :=
  ⟨⟨rn0 [], rfl, rfl, rfl, rfl⟩, ⟨{ ae1 [] with busy := true }, rfl, rfl, rfl, rfl⟩⟩

theorem witness_EveryStepKeepsTheStateSound : ∃ s t : State, s.sound = true ∧ step s = .next t ∧ s.busy = true :=
  ⟨waiting, _, by decide, rfl, rfl⟩

theorem witness_EveryStepKeepsResponsesLegal :
    ∃ s t : State, s.responsesLegal = true ∧ step s = .next t ∧ t.responses ≠ s.responses :=
  ⟨(rn1 [.ok 0x06]).withFetchWord 24 0x040800, _, by decide, rfl, by decide⟩

theorem witness_EveryStepKeepsTrafficLawful :
    ∃ s t : State, s.trafficLawful = true ∧ step s = .next t ∧ s.traffic ≠ [] := ⟨waiting, _, by decide, rfl, by decide⟩

/-- T60b: INIT of a block that knew nothing of a chip that may hold two bytes; and SET.FILTER, whose write is under way, of a
block that is busy with it. -/
theorem witness_TagKeepsMatchingAPassiveChip :
    (∃ (s t : State) (start : List Byte), s.busy = false ∧ s.cfg.fields = fieldTable ∧ s.tagInv start ∧ step s = .next t ∧
      t.busy = false ∧ t.synced = true) ∧
    (∃ (s t : State) (start : List Byte), s.busy = true ∧ s.cfg.fields = fieldTable ∧ s.tagInv start ∧
      (chipView s.cfg .feedConfig1 start s.traffic).passive = true ∧ s.synced = true ∧ step s = .next t ∧ t.busy = false) :=
  ⟨⟨(rn0 [.ok 0xFF, .ok 0, .ok 0xFE, .ok 0]).withFetchWord 24 0x010000, _, [0xFF, 0x03], rfl, rfl,
      fun _ h => absurd h (by decide), rfl, by decide, by decide⟩,
    ⟨{ ae1 [.ok 0] with
        busy := true, tmp := 0x43, traffic := [R 0xA4 0x43]
        inFlight := some ⟨.setFilter 1, [.byte 0x43], some (.write 0x2A [0x84, 0x47])⟩ }, _, [0x43], rfl, rfl,
      fun _ _ => ⟨by decide, by decide⟩, by decide, rfl, rfl, rfl⟩⟩

end Sys2Proof.Tests
end

/-! R23 as rules: what a well-formed row and a well-formed table give, that the table of R25 is one, and the obligation
that says so. -/

namespace Sys2Proof

@[simp] theorem mem_allFields (f : Field) : f ∈ allFields := by cases f <;> decide

/-- What a well-formed row of the table is (R23, R24, log entry 15). -/
theorem FieldSpec.wf_iff {sp : FieldSpec} : sp.wf = true ↔
    (2 ≤ sp.variants.length ∧ sp.variants.length ≤ 4) ∧ sp.codes.Nodup ∧ (sp.variants.map (·.1)).Nodup ∧
    ∀ c ∈ sp.codes, (c <<< sp.shift) &&& ~~~sp.mask = 0 ∧ (c <<< sp.shift) >>> sp.shift = c := by
  simp [FieldSpec.wf, and_assoc]

theorem FieldSpec.codes_nodup_of_wf {sp : FieldSpec} (h : sp.wf = true) : sp.codes.Nodup := by
  obtain ⟨-, hcodes, -, -⟩ := FieldSpec.wf_iff.mp h
  exact hcodes

/-- The first invariant of R23. -/
theorem FieldSpec.code_in_mask_of_wf {sp : FieldSpec} {c : Byte} (h : sp.wf = true) (hc : c ∈ sp.codes) :
    (c <<< sp.shift) &&& ~~~sp.mask = 0 := by
  obtain ⟨-, -, -, hbits⟩ := FieldSpec.wf_iff.mp h
  exact (hbits c hc).left

/-- What a well-formed table is, over every field. -/
theorem FieldTable.wf_iff {ft : FieldTable} : ft.wf = true ↔
    ∀ f, (ft.get f).wf = true ∧
      ∀ g, f ≠ g → (ft.get f).reg = (ft.get g).reg → (ft.get f).mask &&& (ft.get g).mask = 0 := by
  simp [FieldTable.wf, or_iff_not_imp_left]

theorem FieldTable.get_wf {ft : FieldTable} (h : ft.wf = true) (f : Field) : (ft.get f).wf = true :=
  (FieldTable.wf_iff.mp h f).left

/-- The second invariant of R23. -/
theorem FieldTable.masks_disjoint {ft : FieldTable} {f g : Field} (h : ft.wf = true) (hne : f ≠ g)
    (hreg : (ft.get f).reg = (ft.get g).reg) : (ft.get f).mask &&& (ft.get g).mask = 0 :=
  (FieldTable.wf_iff.mp h f).right g hne hreg

/-- The numbers of R25 meet R23. -/
theorem Machine.fieldTable_wf : Machine.fieldTable.wf = true := by decide

/-- Settles O28: the table of R25 is well formed, and R23's two invariants are what a well-formed table gives. -/
theorem Proofs.fieldTableMasksDoNotOverlap : Obligations.FieldTableMasksDoNotOverlap := by
  have hrow := FieldTable.get_wf Machine.fieldTable_wf
  refine ⟨fun f _ => ?codes, fun f _ c hc => ?inMask, fun f _ g _ hne hreg => ?disjoint⟩
  case codes => exact FieldSpec.codes_nodup_of_wf (hrow f)
  case inMask => exact FieldSpec.code_in_mask_of_wf (hrow f) hc
  case disjoint => exact FieldTable.masks_disjoint Machine.fieldTable_wf hne hreg

end Sys2Proof

/-! The registers after reset (R30). -/

namespace Sys2Proof.Proofs
open Sys2Proof.Machine

/-- Settles O50: `State.reset` writes each of these registers and ports out. -/
theorem resetStateIsRelativeNoFeedUnsynced : Obligations.ResetStateIsRelativeNoFeedUnsynced :=
  ⟨rfl, rfl, rfl, rfl, rfl, rfl, rfl⟩

end Sys2Proof.Proofs

/-! The framing of the register address byte (R42), over the addresses of R20. -/

namespace Sys2Proof.Machine

@[simp] theorem frameRd_marked (a : Byte) : frameRd .marked a = 0xA0 ||| a := rfl
@[simp] theorem frameWr_marked (a : Byte) : frameWr .marked a = 0x80 ||| a := rfl
@[simp] theorem frameRd_raw (a : Byte) : frameRd .raw a = a := rfl
@[simp] theorem frameWr_raw (a : Byte) : frameWr .raw a = a := rfl

/-- The highest address of R20 is PACKET_BYTE5's. -/
theorem addr_toNat_le (r : ChipReg) : r.addr.toNat ≤ 0x17 := by cases r <;> decide

theorem frameRd_marked_eq_add (r : ChipReg) : frameRd .marked r.addr = 0xA0 + r.addr := (marked_is_sum r).left
theorem frameWr_marked_eq_add (r : ChipReg) : frameWr .marked r.addr = 0x80 + r.addr := (marked_is_sum r).right

/-- Adding an address of the map to a marker does not wrap, so a marked frame's number is the sum of the numbers. -/
theorem marker_add_addr_toNat (r : ChipReg) {marker : Byte} (h : marker.toNat ≤ 0xA0) :
    (marker + r.addr).toNat = marker.toNat + r.addr.toNat := by
  have haddr := addr_toNat_le r
  exact BitVec.toNat_add_of_lt (by omega)

theorem frameRd_marked_range (r : ChipReg) :
    0xA0 ≤ (frameRd .marked r.addr).toNat ∧ (frameRd .marked r.addr).toNat ≤ 0xB7 := by
  have haddr := addr_toNat_le r
  have hsum := marker_add_addr_toNat r (marker := 0xA0) (by decide)
  rw [frameRd_marked_eq_add, hsum, show (0xA0 : Byte).toNat = 0xA0 from rfl]
  omega

theorem frameWr_marked_range (r : ChipReg) :
    0x80 ≤ (frameWr .marked r.addr).toNat ∧ (frameWr .marked r.addr).toNat ≤ 0x97 := by
  have haddr := addr_toNat_le r
  have hsum := marker_add_addr_toNat r (marker := 0x80) (by decide)
  rw [frameWr_marked_eq_add, hsum, show (0x80 : Byte).toNat = 0x80 from rfl]
  omega

end Sys2Proof.Machine

namespace Sys2Proof.Proofs
open Sys2Proof.Machine

/-- Settles O19: no address of the map shares a bit with a marker or carries into it, so the marked frames are sums and lie
between the marker and the marker plus `0x17`; the addresses are the tables of the model, read off row by row. -/
theorem markedFramesOfTheRegisterMap : Obligations.MarkedFramesOfTheRegisterMap := by
  refine ⟨fun r => ?frames, ?addresses⟩
  case frames =>
    obtain ⟨hrdLow, hrdHigh⟩ := frameRd_marked_range r
    obtain ⟨hwrLow, hwrHigh⟩ := frameWr_marked_range r
    exact ⟨frameRd_marked _, frameRd_marked_eq_add r, frameWr_marked _, frameWr_marked_eq_add r, frameRd_raw _,
      frameWr_raw _, hrdLow, hrdHigh, hwrLow, hwrHigh⟩
  case addresses => decide

end Sys2Proof.Proofs

/-! The decoder against R70's list of illegal words: for each format, which operands it rejects; every other word is a
well-formed instruction. -/

namespace Sys2Proof
open Sys2Proof.Machine Sys2Proof.Claims

/-- A decoder's answer is an error exactly where `illegal` holds, and a well-formed instruction elsewhere. -/
structure RejectsExactly (ft : FieldTable) (illegal : Prop) (r : Except DecodeError Instr) : Prop where
  rejects : illegal → ∃ e, r = .error e
  accepts : ¬ illegal → ∃ i, r = .ok i ∧ i.wf ft = true

theorem rejectsExactly_ok {ft : FieldTable} {illegal : Prop} {i : Instr} (h : ¬ illegal) (hi : i.wf ft = true) :
    RejectsExactly ft illegal (.ok i) := ⟨fun h' => absurd h' h, fun _ => ⟨i, rfl, hi⟩⟩

theorem rejectsExactly_error {ft : FieldTable} {illegal : Prop} {e : DecodeError} (h : illegal) :
    RejectsExactly ft illegal (.error e) := ⟨fun _ => ⟨e, rfl⟩, fun h' => absurd h h'⟩

/-! ### The operands (R61, R63 to R65) -/

theorem addr_of_regOfAddr {a : Byte} {r : ChipReg} (h : regOfAddr a = some r) : r.addr = a := by
  unfold regOfAddr at h
  split at h <;> cases h <;> exact BitVec.eq_of_toNat_eq (Eq.symm ‹_›)

theorem regOfAddr_eq_none_iff {a : Byte} : regOfAddr a = none ↔ a ∉ mapAddrs := by
  constructor
  · have hmapped : mapAddrs.all (fun a => (regOfAddr a).isSome) = true := rfl
    intro h ha
    simpa [h] using List.all_eq_true.mp hmapped a ha
  · intro h
    cases hr : regOfAddr a with
    | none => rfl
    | some r => exact absurd (addr_of_regOfAddr hr ▸ addr_mem_mapAddrs r) h

theorem exists_id_eq {a : Byte} (h : a.toNat ≤ 10) : ∃ f : Field, f.id = a := by
  match ha : a.toNat with
  | 0 => exact ⟨.power, BitVec.eq_of_toNat_eq ha.symm⟩
  | 1 => exact ⟨.feed, BitVec.eq_of_toNat_eq ha.symm⟩
  | 2 => exact ⟨.pos, BitVec.eq_of_toNat_eq ha.symm⟩
  | 3 => exact ⟨.filter, BitVec.eq_of_toNat_eq ha.symm⟩
  | 4 => exact ⟨.axisEn, BitVec.eq_of_toNat_eq ha.symm⟩
  | 5 => exact ⟨.axisInv, BitVec.eq_of_toNat_eq ha.symm⟩
  | 6 => exact ⟨.axisSwap, BitVec.eq_of_toNat_eq ha.symm⟩
  | 7 => exact ⟨.scroll, BitVec.eq_of_toNat_eq ha.symm⟩
  | 8 => exact ⟨.tap, BitVec.eq_of_toNat_eq ha.symm⟩
  | 9 => exact ⟨.glide, BitVec.eq_of_toNat_eq ha.symm⟩
  | 10 => exact ⟨.imouse, BitVec.eq_of_toNat_eq ha.symm⟩
  | n + 11 => omega

theorem getterOf_wf (ft : FieldTable) (f : Field) : (getterOf f).wf ft = true := by cases f <;> rfl

theorem wf_of_setterOf {ft : FieldTable} {f : Field} {c : Byte} {i : Instr} (h : setterOf f c = some i) :
    i.wf ft = ft.declares f c := by
  cases f <;> cases h <;> rfl

/-- FEED and POS are the fields without a setter (R64). -/
theorem setterOf_eq_none_iff {f : Field} {c : Byte} : setterOf f c = none ↔ f.id = 1 ∨ f.id = 2 := by
  cases f <;> simp [setterOf, Field.id]

/-- Every field id but FEED's and POS's names its field's setter (R64, R65). -/
theorem decodeSet_id {ft : FieldTable} {f : Field} {c : Byte} {i : Instr} (h : setterOf f c = some i) :
    decodeSet ft f.id c = decodeCode ft f c i := by
  cases f <;> cases h <;> rfl

theorem decodeGet_reserved {a : Byte} (h : 10 < a.toNat) : decodeGet a = .error (.reservedField a) := by
  unfold decodeGet
  split <;> simp_all

theorem decodeSet_reserved {ft : FieldTable} {a c : Byte} (h : a = 1 ∨ a = 2 ∨ 10 < a.toNat) :
    decodeSet ft a c = .error (.reservedField a) := by
  rcases h with rfl | rfl | h
  · rfl
  · rfl
  · unfold decodeSet
    split <;> simp_all

/-- R25 numbers the variants of every field from 0 up. -/
theorem fieldTable_declares_iff {f : Field} {c : Byte} :
    fieldTable.declares f c = true ↔ c.toNat < (fieldTable.get f).variants.length := by
  cases f <;> simp [FieldTable.declares, FieldTable.get, fieldTable, FieldSpec.codes, BitVec.toNat_eq] <;> omega

/-! ### The formats (R61) -/

section
variable (ft : FieldTable)

theorem decodeN_rejectsExactly {i : Instr} (a b : Byte) (hi : i.wf ft = true) :
    RejectsExactly ft (a ≠ 0 ∨ b ≠ 0) (decodeN i a b) := by
  unfold decodeN
  split
  · exact rejectsExactly_ok (by tauto) hi
  · exact rejectsExactly_error (by tauto)

theorem decodeReg_rejectsExactly {k : ChipReg → Instr} (a : Byte) (hk : ∀ r, (k r).wf ft = true) :
    RejectsExactly ft (a ∉ mapAddrs) (decodeReg a k) := by
  rw [← regOfAddr_eq_none_iff]
  unfold decodeReg
  cases hr : regOfAddr a with
  | some r => exact rejectsExactly_ok (by simp) (hk r)
  | none => exact rejectsExactly_error rfl

theorem decodeGet_rejectsExactly (a : Byte) : RejectsExactly ft (10 < a.toNat) (decodeGet a) := by
  by_cases h : 10 < a.toNat
  · rw [decodeGet_reserved h]
    exact rejectsExactly_error h
  · obtain ⟨f, rfl⟩ := exists_id_eq (by omega : a.toNat ≤ 10)
    rw [decodeGet_id]
    exact rejectsExactly_ok h (getterOf_wf ft f)

/-- An unused third byte is looked at before the operand (R69). -/
theorem rejectsExactly_of_unused {illegal : Prop} {r : Except DecodeError Instr} (b : Byte)
    (h : RejectsExactly ft illegal r) :
    RejectsExactly ft (b ≠ 0 ∨ illegal) (if b = 0 then r else .error .strayOperand) := by
  split
  next hb => simpa [hb] using h
  next hb => exact rejectsExactly_error (.inl hb)

end

/-! ### R70's list, opcode by opcode -/

/-- The opcodes of format N (R61, R62). -/
def opsN : List Byte := [0x01, 0x06, 0x07, 0x08, 0x09, 0x0A, 0x0B, 0x0C, 0x0D]

/-- R62: an opcode is reserved, of format N, or RD, WR, GET or SET. -/
theorem opcode_cases (op : Byte) :
    (op = 0x00 ∨ 0x0E ≤ op.toNat) ∨ op ∈ opsN ∨ op = 0x02 ∨ op = 0x03 ∨ op = 0x04 ∨ op = 0x05 := by
  simp [opsN, BitVec.toNat_eq]
  omega

theorem decodeFields_reserved {ft : FieldTable} {op : Byte} (a b : Byte) (h : op = 0x00 ∨ 0x0E ≤ op.toNat) :
    decodeFields ft op a b = .error (.reservedOpcode op) := by
  rcases h with rfl | h
  · rfl
  · unfold decodeFields
    split <;> simp_all

theorem decodeFields_opsN {ft : FieldTable} {op : Byte} (a b : Byte) (h : op ∈ opsN) :
    ∃ i, i.wf ft = true ∧ decodeFields ft op a b = decodeN i a b := by
  simp only [opsN, List.mem_cons, List.not_mem_nil, or_false] at h
  rcases h with rfl | rfl | rfl | rfl | rfl | rfl | rfl | rfl | rfl <;> exact ⟨_, rfl, rfl⟩

theorem illegalFields_reserved {op : Byte} (a b : Byte) (h : op = 0x00 ∨ 0x0E ≤ op.toNat) : illegalFields op a b :=
  h.imp_right .inl

theorem illegalFields_opsN {op a b : Byte} (h : op ∈ opsN) : illegalFields op a b ↔ a ≠ 0 ∨ b ≠ 0 := by
  simp only [opsN, List.mem_cons, List.not_mem_nil, or_false] at h
  rcases h with rfl | rfl | rfl | rfl | rfl | rfl | rfl | rfl | rfl <;> simp [illegalFields]

theorem illegalFields_rd {a b : Byte} : illegalFields 0x02 a b ↔ b ≠ 0 ∨ a ∉ mapAddrs := by
  simp [illegalFields, mapAddrs]

theorem illegalFields_wr {a b : Byte} : illegalFields 0x03 a b ↔ a ∉ mapAddrs := by
  simp [illegalFields, mapAddrs]

theorem illegalFields_get {a b : Byte} : illegalFields 0x04 a b ↔ b ≠ 0 ∨ 10 < a.toNat := by
  simp [illegalFields]

theorem illegalFields_set_reserved {a : Byte} (b : Byte) (h : a = 1 ∨ a = 2 ∨ 10 < a.toNat) :
    illegalFields 0x05 a b :=
  .inr <| .inr <| .inr <| .inr <| .inr <| .inr <| .inl ⟨rfl, h⟩

theorem illegalFields_set_id {f : Field} {c : Byte} {i : Instr} (h : setterOf f c = some i) :
    illegalFields 0x05 f.id c ↔ ¬ fieldTable.declares f c = true := by
  rw [fieldTable_declares_iff]
  cases f <;> simp_all [illegalFields, setterOf, Field.id, FieldTable.get, fieldTable] <;> omega

theorem decodeSet_rejectsExactly (a b : Byte) :
    RejectsExactly fieldTable (illegalFields 0x05 a b) (decodeSet fieldTable a b) := by
  by_cases h : a = 1 ∨ a = 2 ∨ 10 < a.toNat
  · rw [decodeSet_reserved h]
    exact rejectsExactly_error (illegalFields_set_reserved b h)
  · obtain ⟨f, rfl⟩ := exists_id_eq (by omega : a.toNat ≤ 10)
    cases hset : setterOf f b with
    | none => exact absurd (setterOf_eq_none_iff.mp hset) (by tauto)
    | some i =>
      rw [decodeSet_id hset, illegalFields_set_id hset]
      unfold decodeCode
      split
      next hdecl => exact rejectsExactly_ok (not_not_intro hdecl) ((wf_of_setterOf hset).trans hdecl)
      next hdecl => exact rejectsExactly_error hdecl

/-- R70: the decoder rejects exactly the words of the list. -/
theorem decodeFields_rejectsExactly (op a b : Byte) :
    RejectsExactly fieldTable (illegalFields op a b) (decodeFields fieldTable op a b) := by
  rcases opcode_cases op with hres | hN | rfl | rfl | rfl | rfl
  · rw [decodeFields_reserved a b hres]
    exact rejectsExactly_error (illegalFields_reserved a b hres)
  · obtain ⟨i, hi, hdec⟩ := decodeFields_opsN (ft := fieldTable) a b hN
    rw [hdec, illegalFields_opsN hN]
    exact decodeN_rejectsExactly _ a b hi
  · rw [illegalFields_rd]
    exact rejectsExactly_of_unused _ b (decodeReg_rejectsExactly _ a fun _ => rfl)
  · rw [illegalFields_wr]
    exact decodeReg_rejectsExactly _ a fun _ => rfl
  · rw [illegalFields_get]
    exact rejectsExactly_of_unused _ b (decodeGet_rejectsExactly _ a)
  · exact decodeSet_rejectsExactly a b

end Sys2Proof

namespace Sys2Proof.Machine
open Sys2Proof.Claims

/-- A step of an idle block that is presented a word that is no command (R70, R199). -/
theorem step_of_illegal {s : State} {w : CmdWord} {rest : List HostEvent} {e : DecodeError} (h : s.resetPulsed = false)
    (hb : s.busy = false) (hh : s.hostIn = .command w :: rest) (hd : decodeWith s.cfg.fields w = .error e) :
    step s = .next (illegalCommand (inputsTaken s rest)) := by
  simp [step, portAction, commandPort, h, hb, hh, hd, inputsTaken, State.withHostIn, State.withResetIn]

theorem illegalCommand_eq_answered (s : State) : illegalCommand s = answered s [] illegalWord := by
  simp [illegalCommand, answered, State.finish, respWord, Status.code, illegalWord]

end Sys2Proof.Machine

namespace Sys2Proof.Proofs
open Sys2Proof.Machine

/-- Settles O5: the decoder rejects exactly the words of R70's list, and the port of an idle block answers a rejected word
without running anything. -/
theorem illegalWordAnswersIllegalCommand : Obligations.IllegalWordAnswersIllegalCommand := by
  intro s w rest hidle hfields hreset hword
  have hdec := decodeFields_rejectsExactly (opByte w) (aByte w) (bByte w)
  refine ⟨fun hillegal => ?illegal, fun hlegal => ?legal⟩
  case illegal =>
    obtain ⟨e, he⟩ := hdec.rejects hillegal
    rw [step_of_illegal hreset hidle hword (hfields ▸ he), illegalCommand_eq_answered]
  case legal =>
    rw [hfields]
    exact hdec.accepts hlegal

end Sys2Proof.Proofs

/-! How many transactions a command makes at most (R6), by its script, and that a run whose transactions are all answered
ends in the response (R66). -/

namespace Sys2Proof.Machine
open Sys2Proof.Claims

/-- On every path, the script makes at most this many transactions. -/
def Script.txnsAtMost : Script → Nat → Prop
  | .respond _ _, _ => True
  | .raise _ _, _ => True
  | .xfer _ _, 0 => False
  | .xfer _ k, n + 1 => ∀ b, (k b).txnsAtMost n
  | .sample k, n => ∀ l, (k l).txnsAtMost n
  | .latch _ k, n => ∀ v, (k v).txnsAtMost n
  | .assign _ k, n => k.txnsAtMost n

/-! ### The register primitives -/

section
variable {cfg : Params} {n : Nat}

theorem memRead_txnsAtMost {r : ChipReg} {k : Byte → Script} (h : ∀ b, (k b).txnsAtMost n) :
    (memRead cfg r k).txnsAtMost (n + 1) := h

theorem memWrite_txnsAtMost {r : ChipReg} {v : Byte} {k : Script} (h : k.txnsAtMost n) :
    (memWrite cfg r v k).txnsAtMost (n + 1) := by
  unfold memWrite
  split
  · trivial
  · exact fun _ => h

theorem update_txnsAtMost {f : Field} {c : Byte} {k : Script} (h : k.txnsAtMost n) :
    (update cfg f c k).txnsAtMost (n + 2) := by
  unfold update
  split
  · trivial
  · exact memRead_txnsAtMost fun _ _ => memWrite_txnsAtMost h

theorem clearStatus_txnsAtMost {k : Script} (h : k.txnsAtMost n) : (clearStatus cfg k).txnsAtMost (n + 1) :=
  memWrite_txnsAtMost h

theorem statusReady_txnsAtMost {k : Script} (h : k.txnsAtMost n) : (statusReady cfg k).txnsAtMost (n + 1) := by
  refine memRead_txnsAtMost fun st => ?_
  split
  · trivial
  · exact h

theorem dataReady_txnsAtMost {k : Script} (h : k.txnsAtMost n) : (dataReady cfg k).txnsAtMost (n + 1) := by
  unfold dataReady
  split
  · intro l
    cases l with
    | fault => trivial
    | low => trivial
    | high => exact statusReady_txnsAtMost h
  · exact statusReady_txnsAtMost h

end

/-! ### The commands: each bound holds with any slack `n` -/

section
variable (cfg : Params) {n : Nat}

theorem getScript_txnsAtMost (f : Field) : (getScript cfg f).txnsAtMost (n + 1) := by
  refine memRead_txnsAtMost fun p => ?_
  split <;> trivial

theorem setScript_txnsAtMost (f : Field) (c : Byte) : (setScript cfg f c).txnsAtMost (n + 2) :=
  update_txnsAtMost trivial

theorem wrScript_txnsAtMost (r : ChipReg) (b : Byte) : (wrScript cfg r b).txnsAtMost (n + 1) := by
  have hwrite : (memWrite cfg r b (.respond .ok 0)).txnsAtMost (n + 1) := memWrite_txnsAtMost trivial
  unfold wrScript
  split
  · trivial
  · dsimp only
    split <;> exact hwrite

theorem initScript_txnsAtMost : (initScript cfg).txnsAtMost (n + 4) := update_txnsAtMost (update_txnsAtMost trivial)

theorem enableScript_txnsAtMost : (enableScript cfg).txnsAtMost (n + 3) :=
  update_txnsAtMost (clearStatus_txnsAtMost trivial)

theorem disableScript_txnsAtMost : (disableScript cfg).txnsAtMost (n + 2) := update_txnsAtMost trivial

theorem toabsScript_txnsAtMost : (toabsScript cfg).txnsAtMost (n + 2) := update_txnsAtMost trivial

theorem torelScript_txnsAtMost : (torelScript cfg).txnsAtMost (n + 2) := update_txnsAtMost trivial

/-- The status read, three packet reads, the clear. -/
theorem reldataScript_txnsAtMost : (reldataScript cfg).txnsAtMost (n + 5) :=
  dataReady_txnsAtMost <| memRead_txnsAtMost fun _ => memRead_txnsAtMost fun _ => memRead_txnsAtMost fun _ =>
    clearStatus_txnsAtMost trivial

/-- The status read, five packet reads, the clear: the longest command. -/
theorem absdataScript_txnsAtMost : (absdataScript cfg).txnsAtMost (n + 7) :=
  dataReady_txnsAtMost <| memRead_txnsAtMost fun _ => memRead_txnsAtMost fun _ => memRead_txnsAtMost fun _ =>
    memRead_txnsAtMost fun _ => memRead_txnsAtMost fun _ => clearStatus_txnsAtMost trivial

/-- R6: no command makes more than seven transactions. -/
theorem scriptOf_txnsAtMost (i : Instr) : (scriptOf cfg i).txnsAtMost 7 := by
  cases i
  case init => exact initScript_txnsAtMost cfg
  case rd r | devid => exact memRead_txnsAtMost fun _ => trivial
  case wr r b => exact wrScript_txnsAtMost cfg r b
  case clrst => exact clearStatus_txnsAtMost trivial
  case enable => exact enableScript_txnsAtMost cfg
  case disable => exact disableScript_txnsAtMost cfg
  case toabs => exact toabsScript_txnsAtMost cfg
  case torel => exact torelScript_txnsAtMost cfg
  case reldata => exact reldataScript_txnsAtMost cfg
  case absdata => exact absdataScript_txnsAtMost cfg
  case getPower | getFeed | getPos | getFilter | getAxisEn | getAxisInv | getAxisSwap | getScroll | getTap | getGlide
      | getImouse =>
    exact getScript_txnsAtMost cfg _
  case setPower c | setFilter c | setAxisEn c | setAxisInv c | setAxisSwap c | setScroll c | setTap c | setGlide c
      | setImouse c =>
    exact setScript_txnsAtMost cfg _ c

end

/-! ### A run whose transactions are all answered -/

theorem drawBus_of_script {s : State} {a : BusAnswer} {rest : List BusAnswer} (h : s.busIn = a :: rest) :
    s.drawBus.1 = a := by
  simp [State.drawBus, h]

/-- A run stays busy only at a transaction that is not answered: with an answer at hand for each of its transactions it
ends idle. -/
theorem run_idle_of_answered (tr : Bool) {sc : Script} {answers rest : List BusAnswer} {s : State}
    (hsc : sc.txnsAtMost answers.length) (hbus : s.busIn = answers ++ rest) (hans : ∀ a ∈ answers, a ∉ noAnswer) :
    (run tr sc [] s).busy = false := by
  induction sc generalizing answers s with
  | respond st p => rfl
  | raise e p => simp
  | latch v k ih => exact ih v (hsc v) hbus hans
  | assign a k ih => exact ih hsc (by simpa using hbus) hans
  | sample k ih => rw [run_sample]; exact ih _ (hsc _) (by simpa using hbus) hans
  | xfer t k ih =>
    match answers, hsc, hans with
    | a :: answers, hsc, hans =>
      have hdraw : s.drawBus.1 = a := drawBus_of_script hbus
      cases a with
      | ok b =>
        rw [run_xfer_ok tr t k hdraw]
        exact ih b (hsc b) (by simp [hbus]) fun a ha => hans a (List.mem_cons_of_mem _ ha)
      | err => simp [run_xfer_err tr t k hdraw]
      | stall => exact absurd (by decide) (hans .stall List.mem_cons_self)
      | later => exact absurd (by decide) (hans .later List.mem_cons_self)

end Sys2Proof.Machine

namespace Sys2Proof.Proofs
open Sys2Proof.Machine

/-- Settles O7: a command that the gate refuses is answered at once; one that it lets through makes at most the seven
transactions that are answered, so its run does not end busy, and a run that ends idle has emitted one response. -/
theorem acceptedCommandAnswersExactlyOnce : Obligations.AcceptedCommandAnswersExactlyOnce := by
  intro i s answers rest hidle hbus hlen hans
  cases hgate : (gateOf i).holds s with
  | false => exact ⟨_, Status.wrongMode.code, 0, exec_shut hidle hgate, rfl, rfl, rfl⟩
  | true =>
    have hdone : (run (isTransition i) (scriptOf s.cfg i) [] (s.accept i)).busy = false :=
      run_idle_of_answered _ (hlen ▸ scriptOf_txnsAtMost s.cfg i) hbus hans
    rcases run_ends (isTransition i) (scriptOf s.cfg i) [] (s.accept i) rfl with
      ⟨hbusy, -⟩ | ⟨-, hnone, st, p, hresp⟩
    · simp [hdone] at hbusy
    · exact ⟨_, st.code, p, exec_open hidle hgate, hdone, hnone, hresp⟩

end Sys2Proof.Proofs

/-! A command on the way to its response, in the words of the statements: how a script that is run against `running`
reaches `answered`, one lemma for each register primitive and each answer of the transport (R43, R44, R66, R200). -/

namespace Sys2Proof.Machine
open Sys2Proof.Claims

/-! ### The words of the statements -/

theorem isReadOnly_eq_false_iff {cfg : Params} {r : ChipReg} : isReadOnly cfg r = false ↔ writable cfg r := by
  simp [isReadOnly]

theorem isReadOnly_eq_true_iff {cfg : Params} {r : ChipReg} : isReadOnly cfg r = true ↔ ¬ writable cfg r := by
  simp [isReadOnly]

@[simp] theorem respWord_ok (p : Payload) : respWord .ok p = okWord p := rfl
@[simp] theorem respWord_busError : respWord .busError 0#36 = busErrorWord := rfl
@[simp] theorem respWord_writeToReadOnly : respWord .writeToReadOnly 0#36 = readOnlyWord := rfl

/-! ### A command that has been accepted and not yet answered -/

/-- `s` while the command `i` runs: `es` added to the traffic, `got` given to the command, everything else as in `s`. -/
def State.running (s : State) (i : Instr) (es : List BusEvent) (got : List Got) : State :=
  { s with busy := true, inFlight := some ⟨i, got, none⟩, traffic := s.traffic ++ es }

theorem accept_eq_running (s : State) (i : Instr) : s.accept i = s.running i [] [] := by
  simp [State.accept, State.running]

/-- Where its gate is open, an idle block is left in the state that the command's script ends in. -/
theorem exec_eq_of_run {i : Instr} {s t : State} (hidle : s.busy = false) (hgate : (gateOf i).holds s = true)
    (hrun : run (isTransition i) (scriptOf s.cfg i) [] (s.running i [] []) = t) : exec i s = .next t := by
  rw [exec_open hidle hgate, accept_eq_running, hrun]

section
variable {s s1 : State} {i : Instr} {es : List BusEvent} {got : List Got} {cfg : Params} {r : ChipReg}

@[simp] theorem finish_running (st : Status) (p : Payload) :
    (s.running i es got).finish st p = answered s es (respWord st p) := rfl

@[simp] theorem assign_running (a : Assign) : (s.running i es got).assign a = (s.assign a).running i es got := by
  cases a <;> rfl

/-- A command that is no transition leaves `synced` as it is whatever error it raises (R200). -/
@[simp] theorem raiseError_running (e : Status) (info : Payload) :
    (s.running i es got).raiseError false e info = answered s es (respWord e info) := rfl

@[simp] theorem record_running (e : BusEvent) : (s.running i es got).record e = s.running i (es ++ [e]) got := by
  simp [State.record, State.running]

@[simp] theorem remember_running (g : Got) : (s.running i es got).remember g = s.running i es (got ++ [g]) := rfl

@[simp] theorem drawBus_running :
    (s.running i es got).drawBus = (s.drawBus.1, s.drawBus.2.running i es got) := by
  unfold State.drawBus
  cases h : s.busIn <;> simp [State.running, h]

/-! ### One transaction -/

theorem run_xfer_running_ok {b : Byte} (tr : Bool) (t : Txn) (k : Byte → Script) (hdraw : s.drawBus = (.ok b, s1)) :
    run tr (.xfer t k) [] (s.running i es got) =
      run tr (k b) [] (s1.running i (es ++ [.txn t (okResult t b)]) (got ++ [.byte b])) := by
  rw [run_xfer_ok tr t k (b := b) (by simp [hdraw])]
  simp [hdraw]

theorem run_xfer_running_err (tr : Bool) (t : Txn) (k : Byte → Script) (hdraw : s.drawBus = (.err, s1)) :
    run tr (.xfer t k) [] (s.running i es got) =
      (s1.running i (es ++ [.txn t .err]) got).raiseError tr .busError 0 := by
  rw [run_xfer_err tr t k (by simp [hdraw])]
  simp [hdraw]

theorem run_memRead_ok {b : Byte} (tr : Bool) (k : Byte → Script) (hdraw : s.drawBus = (.ok b, s1)) :
    run tr (memRead cfg r k) [] (s.running i es got) =
      run tr (k b) [] (s1.running i (es ++ [readOk cfg r b]) (got ++ [.byte b])) :=
  run_xfer_running_ok tr (readTxn cfg r) k hdraw

theorem run_memRead_err (tr : Bool) (k : Byte → Script) (hdraw : s.drawBus = (.err, s1)) :
    run tr (memRead cfg r k) [] (s.running i es got) =
      (s1.running i (es ++ [readErr cfg r]) got).raiseError tr .busError 0 :=
  run_xfer_running_err tr (readTxn cfg r) k hdraw

/-- A read-only register is refused before any transaction (R44). -/
theorem memWrite_of_readOnly (v : Byte) (k : Script) (hro : ¬ writable cfg r) :
    memWrite cfg r v k = .raise .writeToReadOnly 0 := by
  simp [memWrite, isReadOnly_eq_true_iff.mpr hro]

theorem memWrite_of_writable (v : Byte) (k : Script) (hw : writable cfg r) :
    memWrite cfg r v k = .xfer (writeTxn cfg r v) fun _ => k := by
  simp [memWrite, isReadOnly_eq_false_iff.mpr hw]

theorem run_memWrite_ok {b : Byte} (tr : Bool) (v : Byte) (k : Script) (hw : writable cfg r)
    (hdraw : s.drawBus = (.ok b, s1)) :
    run tr (memWrite cfg r v k) [] (s.running i es got) =
      run tr k [] (s1.running i (es ++ [writeOk cfg r v]) (got ++ [.byte b])) := by
  rw [memWrite_of_writable v k hw]
  exact run_xfer_running_ok tr (writeTxn cfg r v) _ hdraw

theorem run_memWrite_err (tr : Bool) (v : Byte) (k : Script) (hw : writable cfg r) (hdraw : s.drawBus = (.err, s1)) :
    run tr (memWrite cfg r v k) [] (s.running i es got) =
      (s1.running i (es ++ [writeErr cfg r v]) got).raiseError tr .busError 0 := by
  rw [memWrite_of_writable v k hw]
  exact run_xfer_running_err tr (writeTxn cfg r v) _ hdraw

end

end Sys2Proof.Machine

/-! The register access engine (R82 to R85): its words, its scripts against each answer of the transport, and its
obligations. -/

namespace Sys2Proof

theorem decodeWith_wordOf (ft : FieldTable) (op a b : Byte) : decodeWith ft (wordOf op a b) = decodeFields ft op a b := by
  simp [decodeWith]

theorem decodeWith_rd (ft : FieldTable) (r : ChipReg) : decodeWith ft (wordOf 0x02 r.addr 0x00) = .ok (.rd r) := by
  simp [decodeWith_wordOf, decodeFields, decodeReg]

theorem decodeWith_wr (ft : FieldTable) (r : ChipReg) (v : Byte) :
    decodeWith ft (wordOf 0x03 r.addr v) = .ok (.wr r v) := by
  simp [decodeWith_wordOf, decodeFields, decodeReg]

theorem addr_eq_four_iff {r : ChipReg} : r.addr = 0x04 ↔ r = .feedConfig1 := by cases r <;> decide

end Sys2Proof

namespace Sys2Proof.Machine
open Sys2Proof.Claims

/-! ### A read that is answered with the byte it brings: RD and DEVID -/

/-- The script that RD and DEVID share (R82, R85). -/
def readAnswer (cfg : Params) (r : ChipReg) : Script := memRead cfg r fun v => .respond .ok (bytePayload v)

theorem scriptOf_rd (cfg : Params) (r : ChipReg) : scriptOf cfg (.rd r) = readAnswer cfg r := rfl
theorem scriptOf_devid (cfg : Params) : scriptOf cfg .devid = readAnswer cfg .firmwareId := rfl

section
variable {s s1 : State} {i : Instr} {cfg : Params} {r : ChipReg} {b : Byte}

theorem run_readAnswer_ok (hdraw : s.drawBus = (.ok b, s1)) :
    run false (readAnswer cfg r) [] (s.running i [] []) = answered s1 [readOk cfg r b] (okWord (b.setWidth 36)) := by
  simp [readAnswer, run_memRead_ok false _ hdraw, bytePayload]

theorem run_readAnswer_err (hdraw : s.drawBus = (.err, s1)) :
    run false (readAnswer cfg r) [] (s.running i [] []) = answered s1 [readErr cfg r] busErrorWord := by
  simp [readAnswer, run_memRead_err false _ hdraw]

/-! ### A write that is answered `OK`: WR and CLRST -/

/-- The script that WR ends in and that CLRST is for STATUS1 (R83, R84). -/
def writeAnswer (cfg : Params) (r : ChipReg) (v : Byte) : Script := memWrite cfg r v (.respond .ok 0)

theorem scriptOf_clrst (cfg : Params) : scriptOf cfg .clrst = writeAnswer cfg .status1 0x00 := rfl

theorem run_writeAnswer_ok (v : Byte) (hw : writable cfg r) (hdraw : s.drawBus = (.ok b, s1)) :
    run false (writeAnswer cfg r v) [] (s.running i [] []) = answered s1 [writeOk cfg r v] (okWord 0) := by
  simp [writeAnswer, run_memWrite_ok false v _ hw hdraw]

theorem run_writeAnswer_err (v : Byte) (hw : writable cfg r) (hdraw : s.drawBus = (.err, s1)) :
    run false (writeAnswer cfg r v) [] (s.running i [] []) = answered s1 [writeErr cfg r v] busErrorWord := by
  simp [writeAnswer, run_memWrite_err false v _ hw hdraw]

theorem run_writeAnswer_readOnly (v : Byte) (hro : ¬ writable cfg r) :
    run false (writeAnswer cfg r v) [] (s.running i [] []) = answered s [] readOnlyWord := by
  simp [writeAnswer, memWrite_of_readOnly v _ hro]

theorem run_wrScript_readOnly (v : Byte) (hro : ¬ writable cfg r) :
    run false (wrScript cfg r v) [] (s.running i [] []) = answered s [] readOnlyWord := by
  simp [wrScript, isReadOnly_eq_true_iff.mpr hro]

/-- What WR does to `synced` before the write of a writable register (R83). -/
def State.afterWr (s : State) (r : ChipReg) : State := s.assign (.synced (if r.addr = 0x04 then false else s.synced))

/-- Drawing the answer does not look at `synced`. -/
theorem drawBus_afterWr {a : BusAnswer} (hdraw : s.drawBus = (a, s1)) :
    (s.afterWr r).drawBus = (a, { s1 with synced := (s.afterWr r).synced }) := by
  rw [State.afterWr, drawBus_of_assign, hdraw]
  rfl

theorem afterWr_feedConfig1 : s.afterWr .feedConfig1 = s.assign (.synced false) := rfl

theorem afterWr_of_ne (hr : r ≠ .feedConfig1) : s.afterWr r = s := by
  rw [State.afterWr, if_neg (mt addr_eq_four_iff.mp hr)]
  rfl

/-- WR of a writable register is the write, made after FEED_CONFIG1 has cleared `synced` (R83). -/
theorem run_wrScript_of_writable (v : Byte) (hw : writable cfg r) :
    run false (wrScript cfg r v) [] (s.running i [] []) =
      run false (writeAnswer cfg r v) [] ((s.afterWr r).running i [] []) := by
  obtain rfl | hr := eq_or_ne r .feedConfig1
  · simp [wrScript, writeAnswer, isReadOnly_eq_false_iff.mpr hw, afterWr_feedConfig1]
  · simp [wrScript, writeAnswer, isReadOnly_eq_false_iff.mpr hw, hr, afterWr_of_ne hr]

end

end Sys2Proof.Machine

namespace Sys2Proof.Proofs
open Sys2Proof.Machine Sys2Proof.Claims

/-- Settles O15: RD has no gate, and its one read ends it with either answer. -/
theorem rdAnswersTheByteRead : Obligations.RdAnswersTheByteRead := by
  intro r s s1 b hidle
  refine ⟨decodeWith_rd _ r, fun hok => ?ok, fun herr => ?err⟩
  case ok => exact exec_eq_of_run hidle rfl (run_readAnswer_ok hok)
  case err => exact exec_eq_of_run hidle rfl (run_readAnswer_err herr)

/-- Settles O16: `synced` falls before the write, so it has fallen whether or not the write succeeds. -/
theorem wrWritesTheByteOrRefuses : Obligations.WrWritesTheByteOrRefuses := by
  intro r v s s1 b hidle
  refine ⟨decodeWith_wr _ r v, fun hro => ?readOnly, fun hw hok => ?ok, fun hw herr => ?err⟩
  all_goals refine exec_eq_of_run hidle rfl ?_
  case readOnly => exact run_wrScript_readOnly v hro
  case ok => exact (run_wrScript_of_writable v hw).trans (run_writeAnswer_ok v hw (drawBus_afterWr hok))
  case err => exact (run_wrScript_of_writable v hw).trans (run_writeAnswer_err v hw (drawBus_afterWr herr))

/-- Settles O17: CLRST is one write, of 0x00 to STATUS1. -/
theorem clrstWritesZeroToStatus1 : Obligations.ClrstWritesZeroToStatus1 := by
  intro s s1 b hidle
  refine ⟨rfl, fun hw hok => ?ok, fun hw herr => ?err, fun hro => ?readOnly⟩
  all_goals refine exec_eq_of_run hidle rfl ?_
  case ok => exact run_writeAnswer_ok 0x00 hw hok
  case err => exact run_writeAnswer_err 0x00 hw herr
  case readOnly => exact run_writeAnswer_readOnly 0x00 hro

/-- Settles O18: DEVID is the read of RD at FIRMWARE_ID. -/
theorem devidAnswersTheFirmwareId : Obligations.DevidAnswersTheFirmwareId := by
  intro s s1 b hidle
  refine ⟨rfl, fun hok => ?ok, fun herr => ?err⟩
  case ok => exact exec_eq_of_run hidle rfl (run_readAnswer_ok hok)
  case err => exact exec_eq_of_run hidle rfl (run_readAnswer_err herr)

end Sys2Proof.Proofs

/-! The codec of a field (R100 to R102): what an answer of `decodeField` and of `encodeField` says of the field's
variants, and the laws of R102. -/

namespace Sys2Proof
open Sys2Proof.Machine

section
variable {sp : FieldSpec} {v w : Variant} {c d : Byte}

theorem mem_variants_of_decodeField (h : decodeField sp c = some v) : (v, c) ∈ sp.variants := by
  obtain ⟨⟨w, d⟩, hfind, rfl⟩ := Option.map_eq_some_iff.mp h
  obtain rfl : d = c := by simpa using List.find?_some hfind
  exact List.mem_of_find?_eq_some hfind

theorem mem_variants_of_encodeField (h : encodeField sp v = some c) : (v, c) ∈ sp.variants := by
  obtain ⟨⟨w, d⟩, hfind, rfl⟩ := Option.map_eq_some_iff.mp h
  obtain rfl : w = v := by simpa using List.find?_some hfind
  exact List.mem_of_find?_eq_some hfind

/-- R101: decoding fails on every byte that is no declared code. -/
theorem decodeField_eq_none_iff : decodeField sp c = none ↔ c ∉ sp.codes := by
  simp only [decodeField, FieldSpec.codes, Option.map_eq_none_iff, List.find?_eq_none, List.mem_map, beq_iff_eq,
    not_exists, not_and]

theorem exists_decodeField_of_mem_codes (hc : c ∈ sp.codes) : ∃ v, decodeField sp c = some v :=
  Option.ne_none_iff_exists'.mp (mt decodeField_eq_none_iff.mp (not_not_intro hc))

/-- R100: `encode_F` is defined on nothing but the declared variants. -/
theorem encodeField_eq_none_iff : encodeField sp v = none ↔ v ∉ sp.variants.map (·.1) := by
  simp only [encodeField, Option.map_eq_none_iff, List.find?_eq_none, List.mem_map, beq_iff_eq, not_exists, not_and]

theorem exists_encodeField_of_mem (hv : v ∈ sp.variants.map (·.1)) : ∃ c, encodeField sp v = some c :=
  Option.ne_none_iff_exists'.mp (mt encodeField_eq_none_iff.mp (not_not_intro hv))

/-- The codes of a well-formed row are distinct, so a code stands for one variant. -/
theorem variant_unique_of_wf (h : sp.wf = true) (hv : (v, c) ∈ sp.variants) (hw : (w, c) ∈ sp.variants) : v = w :=
  congrArg Prod.fst (List.inj_on_of_nodup_map (FieldSpec.codes_nodup_of_wf h) hv hw rfl)

/-- The names of a well-formed row are distinct, so a variant has one code. -/
theorem code_unique_of_wf (h : sp.wf = true) (hc : (v, c) ∈ sp.variants) (hd : (v, d) ∈ sp.variants) : c = d := by
  obtain ⟨-, -, hnames, -⟩ := FieldSpec.wf_iff.mp h
  exact congrArg Prod.snd (List.inj_on_of_nodup_map hnames hc hd rfl)

/-- R102 (a): whatever the code of `v` decodes to has that code, and only `v` does. -/
theorem decodeField_of_encodeField (h : sp.wf = true) (henc : encodeField sp v = some c) :
    decodeField sp c = some v := by
  have hv := mem_variants_of_encodeField henc
  obtain ⟨w, hdec⟩ := exists_decodeField_of_mem_codes (List.mem_map_of_mem hv)
  rw [hdec, variant_unique_of_wf h (mem_variants_of_decodeField hdec) hv]

/-- R102 (c). -/
theorem decodeField_injective_of_wf (h : sp.wf = true) (hc : decodeField sp c = some v)
    (hd : decodeField sp d = some v) : c = d :=
  code_unique_of_wf h (mem_variants_of_decodeField hc) (mem_variants_of_decodeField hd)

end

end Sys2Proof

namespace Sys2Proof.Proofs
open Sys2Proof.Machine

/-- Settles O26: the table of R25 is well formed, and in a well-formed row a code stands for one variant and a variant has
one code. -/
theorem fieldCodecRoundTripsAndRejects : Obligations.FieldCodecRoundTripsAndRejects := by
  refine ⟨FieldTable.get_wf fieldTable_wf, fun sp hwf => ⟨fun v hv => ?roundTrip, fun c hc => ?rejects,
    fun c d v hc hd => ?injective⟩⟩
  case roundTrip =>
    obtain ⟨c, henc⟩ := exists_encodeField_of_mem hv
    exact ⟨c, henc, decodeField_of_encodeField hwf henc⟩
  case rejects => exact decodeField_eq_none_iff.mpr hc
  case injective => exact decodeField_injective_of_wf hwf hc hd

end Sys2Proof.Proofs

/-! The configuration fields (R103, R115): the words of GET and SET, `GateField`, the script of GET, and `Update` (R80)
against each answer of the transport. -/

namespace Sys2Proof
open Sys2Proof.Machine

/-! ### The words (R64, R65) -/

theorem decodeWith_get (ft : FieldTable) (f : Field) : decodeWith ft (wordOf 0x04 f.id 0x00) = .ok (getterOf f) := by
  simp [decodeWith_wordOf, decodeFields, decodeGet_id]

theorem decodeWith_set {ft : FieldTable} {f : Field} {c : Byte} {i : Instr} (hset : setterOf f c = some i)
    (hc : c ∈ (ft.get f).codes) : decodeWith ft (wordOf 0x05 f.id c) = .ok i := by
  simp [decodeWith_wordOf, decodeFields, decodeSet_id hset, decodeCode, FieldTable.declares, hc]

/-- FEED and POS have no SET (R64). -/
theorem decodeWith_set_feed_pos {ft : FieldTable} {g : Field} (c : Byte) (hg : g ∈ [Field.feed, .pos]) :
    decodeWith ft (wordOf 0x05 g.id c) = .error (.reservedField g.id) := by
  have hreserved : g.id = 1 ∨ g.id = 2 ∨ 10 < g.id.toNat := by
    obtain rfl | rfl : g = .feed ∨ g = .pos := by simpa using hg
    · exact .inl rfl
    · exact .inr (.inl rfl)
  rw [decodeWith_wordOf]
  exact decodeSet_reserved hreserved

end Sys2Proof

namespace Sys2Proof.Machine
open Sys2Proof.Claims

/-! ### The commands of a field -/

theorem scriptOf_getterOf (cfg : Params) (f : Field) : scriptOf cfg (getterOf f) = getScript cfg f := by
  cases f <;> rfl

theorem gateOf_getterOf (f : Field) : gateOf (getterOf f) = fieldGate f := by cases f <;> rfl

theorem isTransition_getterOf (f : Field) : isTransition (getterOf f) = false := by cases f <;> rfl

section
variable {f : Field} {c : Byte} {i : Instr}

theorem scriptOf_setterOf (cfg : Params) (hset : setterOf f c = some i) : scriptOf cfg i = setScript cfg f c := by
  cases f <;> cases hset <;> rfl

theorem gateOf_setterOf (hset : setterOf f c = some i) : gateOf i = fieldGate f := by
  cases f <;> cases hset <;> rfl

theorem isTransition_setterOf (hset : setterOf f c = some i) : isTransition i = false := by
  cases f <;> cases hset <;> rfl

end

/-! ### `GateField` (R147) -/

theorem fieldGate_holds_iff {f : Field} {s : State} : (fieldGate f).holds s = true ↔ fieldExists f s := by
  cases f <;> simp [fieldGate, Gate.holds, fieldExists]

/-- A command that its gate refuses touches nothing (R140, R198). -/
theorem exec_eq_wrongMode {i : Instr} {s : State} (hidle : s.busy = false) (hgate : ¬ (gateOf i).holds s = true) :
    exec i s = .next (answered s [] wrongModeWord) := by
  rw [exec_shut hidle (Bool.eq_false_iff.mpr hgate), accept_eq_running, finish_running]
  rfl

/-! ### The script of GET -/

section
variable {s s1 : State} {i : Instr} {cfg : Params} {f : Field} {p : Byte}

theorem run_getScript_err (hdraw : s.drawBus = (.err, s1)) :
    run false (getScript cfg f) [] (s.running i [] []) =
      answered s1 [readErr cfg (cfg.fields.get f).reg] busErrorWord := by
  simp [getScript, run_memRead_err false _ hdraw]

theorem run_getScript_declared (hdraw : s.drawBus = (.ok p, s1))
    (hc : fieldBits (cfg.fields.get f) p ∈ (cfg.fields.get f).codes) :
    run false (getScript cfg f) [] (s.running i [] []) =
      answered s1 [readOk cfg (cfg.fields.get f).reg p] (okWord ((fieldBits (cfg.fields.get f) p).setWidth 36)) := by
  obtain ⟨v, hdec⟩ := exists_decodeField_of_mem_codes hc
  simp [getScript, run_memRead_ok false _ hdraw, hdec, bytePayload]

theorem run_getScript_undeclared (hdraw : s.drawBus = (.ok p, s1))
    (hc : fieldBits (cfg.fields.get f) p ∉ (cfg.fields.get f).codes) :
    run false (getScript cfg f) [] (s.running i [] []) =
      answered s1 [readOk cfg (cfg.fields.get f).reg p]
        ((5 : BitVec 4) ++ ((fieldBits (cfg.fields.get f) p).setWidth 36 : Payload)) := by
  have hdec := decodeField_eq_none_iff.mpr hc
  simp [getScript, run_memRead_ok false _ hdraw, hdec, bytePayload, respWord, Status.code]

end

/-! ### `Update` (R80) -/

section
variable {s s1 s2 : State} {i : Instr} {es : List BusEvent} {got : List Got} {cfg : Params} {f : Field} {p q : Byte}

@[simp] theorem setTmp_running (v : Byte) : (s.running i es got).setTmp v = (s.setTmp v).running i es got := rfl

theorem update_of_readOnly (c : Byte) (k : Script) (hro : ¬ writable cfg (cfg.fields.get f).reg) :
    update cfg f c k = .raise .writeToReadOnly 0 := by
  simp [update, isReadOnly_eq_true_iff.mpr hro]

theorem update_of_writable (c : Byte) (k : Script) (hw : writable cfg (cfg.fields.get f).reg) :
    update cfg f c k = memRead cfg (cfg.fields.get f).reg fun p =>
      .latch p fun tmp => memWrite cfg (cfg.fields.get f).reg (composed (cfg.fields.get f) c tmp) k := by
  simp [update, isReadOnly_eq_false_iff.mpr hw, compose, composed]

theorem run_update_readErr (tr : Bool) (c : Byte) (k : Script) (hw : writable cfg (cfg.fields.get f).reg)
    (hread : s.drawBus = (.err, s1)) :
    run tr (update cfg f c k) [] (s.running i es got) =
      (s1.running i (es ++ [readErr cfg (cfg.fields.get f).reg]) got).raiseError tr .busError 0 := by
  rw [update_of_writable c k hw, run_memRead_err tr _ hread]

theorem run_update_writeErr (tr : Bool) (c : Byte) (k : Script) (hw : writable cfg (cfg.fields.get f).reg)
    (hread : s.drawBus = (.ok p, s1)) (hwrite : s1.drawBus = (.err, s2)) :
    run tr (update cfg f c k) [] (s.running i es got) =
      ((s2.setTmp p).running i (es ++ [readOk cfg (cfg.fields.get f).reg p,
        writeErr cfg (cfg.fields.get f).reg (composed (cfg.fields.get f) c p)]) (got ++ [.byte p])).raiseError tr
          .busError 0 := by
  have hwrite' : (s1.setTmp p).drawBus = (.err, s2.setTmp p) := by simp [hwrite]
  rw [update_of_writable c k hw, run_memRead_ok tr _ hread, run_latch, setTmp_running]
  simp [run_memWrite_err tr _ _ hw hwrite']

theorem run_update_ok (tr : Bool) (c : Byte) (k : Script) (hw : writable cfg (cfg.fields.get f).reg)
    (hread : s.drawBus = (.ok p, s1)) (hwrite : s1.drawBus = (.ok q, s2)) :
    run tr (update cfg f c k) [] (s.running i es got) =
      run tr k [] ((s2.setTmp p).running i (es ++ [readOk cfg (cfg.fields.get f).reg p,
        writeOk cfg (cfg.fields.get f).reg (composed (cfg.fields.get f) c p)]) (got ++ [.byte p, .byte q])) := by
  have hwrite' : (s1.setTmp p).drawBus = (.ok q, s2.setTmp p) := by simp [hwrite]
  rw [update_of_writable c k hw, run_memRead_ok tr _ hread, run_latch, setTmp_running]
  simp [run_memWrite_ok tr _ _ hw hwrite']

end

end Sys2Proof.Machine

namespace Sys2Proof.Proofs
open Sys2Proof.Machine Sys2Proof.Claims

/-- Where a field's gate is open, its getter leaves an idle block as the script of GET ends (R103). -/
theorem exec_getterOf_eq {f : Field} {s t : State} (hidle : s.busy = false) (hgate : fieldExists f s)
    (hrun : run false (getScript s.cfg f) [] (s.running (getterOf f) [] []) = t) :
    exec (getterOf f) s = .next t := by
  refine exec_eq_of_run hidle ?_ ?_
  · rwa [gateOf_getterOf, fieldGate_holds_iff]
  · rwa [isTransition_getterOf, scriptOf_getterOf]

/-- Settles O20: behind its gate GET is one read, and the byte read decodes exactly where it is a declared code. -/
theorem getAnswersTheFieldOfTheByteRead : Obligations.GetAnswersTheFieldOfTheByteRead := by
  intro f s s1 p hidle sp c
  refine ⟨decodeWith_get _ f, fun hshut => ?shut, fun hgate herr => ?err, fun hgate hok hc => ?declared,
    fun hgate hok hc => ?undeclared⟩
  case shut => exact exec_eq_wrongMode hidle (by rwa [gateOf_getterOf, fieldGate_holds_iff])
  case err => exact exec_getterOf_eq hidle hgate (run_getScript_err herr)
  case declared => exact exec_getterOf_eq hidle hgate (run_getScript_declared hok hc)
  case undeclared => exact exec_getterOf_eq hidle hgate (run_getScript_undeclared hok hc)

/-- Where a field's gate is open, its setter leaves an idle block as `Update` and then `OK` end (R115). -/
theorem exec_setterOf_eq {f : Field} {c : Byte} {i : Instr} {s t : State} (hset : setterOf f c = some i)
    (hidle : s.busy = false) (hgate : fieldExists f s)
    (hrun : run false (update s.cfg f c (.respond .ok 0)) [] (s.running i [] []) = t) : exec i s = .next t := by
  refine exec_eq_of_run hidle ?_ ?_
  · rwa [gateOf_setterOf hset, fieldGate_holds_iff]
  · rwa [isTransition_setterOf hset, scriptOf_setterOf _ hset, setScript]

/-- Settles O22: behind its gate SET is one `Update`; it is no transition, so an error leaves `synced` as it is. -/
theorem setWritesTheByteComposedFromTmp : Obligations.SetWritesTheByteComposedFromTmp := by
  intro f c i s s1 s2 p q hset hidle sp hc
  refine ⟨decodeWith_set hset hc, fun g hg j => ?noSetter, fun hshut => ?shut, fun hgate hro => ?readOnly,
    fun hgate hw herr => ?readErr, fun hgate hw hread herr => ?writeErr, fun hgate hw hread hwrite => ?ok⟩
  case noSetter =>
    rw [decodeWith_set_feed_pos c hg]
    exact nofun
  case shut => exact exec_eq_wrongMode hidle (by rwa [gateOf_setterOf hset, fieldGate_holds_iff])
  all_goals refine exec_setterOf_eq hset hidle hgate ?_
  case readOnly => simp [update_of_readOnly c _ hro]
  case readErr => exact run_update_readErr false c _ hw herr
  case writeErr => exact run_update_writeErr false c _ hw hread herr
  case ok => exact run_update_ok false c _ hw hread hwrite

end Sys2Proof.Proofs

/-! The mode gate (R140) in the words of its table, and what a run can do to what the block shows of itself: the tag,
`synced` and the responses (R66, R71). -/

namespace Sys2Proof.Machine
open Sys2Proof.Claims

/-- `gateOf` is the table of R140. -/
theorem gateOf_holds_iff {i : Instr} {s : State} : (gateOf i).holds s = true ↔ existsIn i s := by
  cases i <;> simp [gateOf, fieldGate, Gate.holds, existsIn, and_assoc]

theorem exec_outside_gate {i : Instr} {s : State} (hidle : s.busy = false) (hshut : ¬ existsIn i s) :
    exec i s = .next (answered s [] wrongModeWord) :=
  exec_eq_wrongMode hidle (mt gateOf_holds_iff.mp hshut)

theorem codeOf_respWord (st : Status) (p : Payload) : codeOf (respWord st p) = st.code.toNat := by
  have hp : p.toNat / 2 ^ 36 = 0 := Nat.div_eq_of_lt p.isLt
  simp only [codeOf, respWord, BitVec.toNat_append, ← Nat.shiftRight_eq_div_pow, Nat.shiftRight_or_distrib,
    Nat.shiftLeft_shiftRight] at hp ⊢
  simp [hp]

/-- The errors that clear `synced` (R146) are those with the codes 2 and 4. -/
theorem desyncs_iff_codeOf {st : Status} {p : Payload} :
    desyncs st = true ↔ codeOf (respWord st p) = 2 ∨ codeOf (respWord st p) = 4 := by
  rw [codeOf_respWord]
  cases st <;> decide

/-! ### What a run leaves alone until it assigns or answers -/

/-- `t` shows the tag, `synced` and the responses of `s`. -/
structure State.ShowsAs (t s : State) : Prop where
  tagPos : t.tagPos = s.tagPos
  tagFeed : t.tagFeed = s.tagFeed
  synced : t.synced = s.synced
  responses : t.responses = s.responses

theorem showsAs_of_drawBus {s t : State} {a : BusAnswer} (hdraw : s.drawBus = (a, t)) : t.ShowsAs s := by
  obtain rfl : s.drawBus.2 = t := by rw [hdraw]
  exact ⟨by simp, by simp, by simp, by simp⟩

/-- At a transaction a run goes on with a byte, or it stops there: with `BUS_ERROR`, or without a response. -/
theorem run_xfer_cases (tr : Bool) (t : Txn) (k : Byte → Script) (past : List Got) (s : State) :
    (∃ b past', ∃ u : State, u.ShowsAs s ∧ run tr (.xfer t k) past s = run tr (k b) past' u) ∨
    (∃ u : State, u.ShowsAs s ∧ run tr (.xfer t k) past s = u.raiseError tr .busError 0) ∨
    (run tr (.xfer t k) past s).ShowsAs s := by
  match past with
  | .byte b :: past => exact .inl ⟨b, past, s, ⟨rfl, rfl, rfl, rfl⟩, rfl⟩
  | .level l :: past => exact .inr (.inr ⟨rfl, rfl, rfl, rfl⟩)
  | [] =>
    match ha : s.drawBus.1 with
    | .ok b => exact .inl ⟨b, [], _, ⟨by simp, by simp, by simp, by simp⟩, run_xfer_ok tr t k ha⟩
    | .err => exact .inr (.inl ⟨_, ⟨by simp, by simp, by simp, by simp⟩, run_xfer_err tr t k ha⟩)
    | .stall =>
      rw [run_xfer_stall tr t k ha]
      exact .inr (.inr ⟨by simp, by simp, by simp, by simp⟩)
    | .later =>
      rw [run_xfer_later tr t k ha]
      exact .inr (.inr ⟨by simp, by simp, by simp, by simp⟩)

/-- At a sample a run goes on with a level; a record that does not fit leaves it where it is. -/
theorem run_sample_cases (tr : Bool) (k : PinLevel → Script) (past : List Got) (s : State) :
    (∃ l past', ∃ u : State, u.ShowsAs s ∧ run tr (.sample k) past s = run tr (k l) past' u) ∨
    (run tr (.sample k) past s).ShowsAs s := by
  match past with
  | .level l :: past => exact .inl ⟨l, past, s, ⟨rfl, rfl, rfl, rfl⟩, rfl⟩
  | .byte b :: past => exact .inr ⟨rfl, rfl, rfl, rfl⟩
  | [] => exact .inl ⟨s.drawPin.1, [], _, ⟨by simp, by simp, by simp, by simp⟩, run_sample tr k s⟩

/-! ### What the scripts answer and assign -/

/-- On every path, the script does not answer `WRONG_MODE` and assigns only what `A` allows. -/
def Script.Within (A : Assign → Prop) : Script → Prop
  | .respond st _ => st ≠ .wrongMode
  | .raise e _ => e ≠ .wrongMode
  | .xfer _ k => ∀ b, (k b).Within A
  | .sample k => ∀ l, (k l).Within A
  | .latch _ k => ∀ v, (k v).Within A
  | .assign a k => A a ∧ k.Within A

section
variable {A : Assign → Prop} {cfg : Params} {k : Script}

theorem within_respond_ok (p : Payload) : (Script.respond .ok p).Within A := nofun

theorem memWrite_within {r : ChipReg} {v : Byte} (h : k.Within A) : (memWrite cfg r v k).Within A := by
  unfold memWrite
  split
  · exact nofun
  · exact fun _ => h

theorem update_within {f : Field} {c : Byte} (h : k.Within A) : (update cfg f c k).Within A := by
  unfold update
  split
  · exact nofun
  · exact fun _ _ => memWrite_within h

theorem statusReady_within (h : k.Within A) : (statusReady cfg k).Within A := by
  intro st
  dsimp only
  split
  · exact nofun
  · exact h

theorem dataReady_within (h : k.Within A) : (dataReady cfg k).Within A := by
  unfold dataReady
  split
  · intro l
    cases l with
    | fault => exact nofun
    | low => exact nofun
    | high => exact statusReady_within h
  · exact statusReady_within h

theorem getScript_within (f : Field) : (getScript cfg f).Within A := by
  intro p
  dsimp only
  split <;> exact nofun

theorem wrScript_within {r : ChipReg} {b : Byte} (h : A (.synced false)) : (wrScript cfg r b).Within A := by
  have hwrite : (memWrite cfg r b (.respond .ok 0)).Within A := memWrite_within (within_respond_ok 0)
  unfold wrScript
  split
  · exact nofun
  · dsimp only
    split
    · exact ⟨h, hwrite⟩
    · exact hwrite

/-- No script answers `WRONG_MODE`, which is the gate's, and only the script of INIT sets `synced` (R12, R141). -/
theorem scriptOf_within (cfg : Params) (i : Instr) :
    (scriptOf cfg i).Within fun a => a = .synced true → i = .init := by
  cases i
  case init =>
    exact update_within <| update_within ⟨fun _ => rfl, fun _ => rfl, fun _ => rfl, within_respond_ok 0⟩
  case rd r | devid => exact fun _ => within_respond_ok _
  case wr r b => exact wrScript_within nofun
  case clrst => exact memWrite_within (within_respond_ok 0)
  case enable => exact update_within <| memWrite_within ⟨nofun, within_respond_ok 0⟩
  case disable | toabs | torel => exact update_within ⟨nofun, within_respond_ok 0⟩
  case reldata => exact dataReady_within fun _ _ _ => memWrite_within (within_respond_ok _)
  case absdata => exact dataReady_within fun _ _ _ _ _ => memWrite_within (within_respond_ok _)
  case getPower | getFeed | getPos | getFilter | getAxisEn | getAxisInv | getAxisSwap | getScroll | getTap | getGlide
      | getImouse =>
    exact getScript_within _
  case setPower c | setFilter c | setAxisEn c | setAxisInv c | setAxisSwap c | setScroll c | setTap c | setGlide c
      | setImouse c =>
    exact update_within (within_respond_ok 0)

/-- A response that a run emits is not `WRONG_MODE`. -/
theorem run_answer_of_within {sc : Script} (h : sc.Within A) (tr : Bool) (past : List Got) (s : State) :
    (run tr sc past s).responses = s.responses ∨
      ∃ st p, st ≠ .wrongMode ∧ (run tr sc past s).responses = s.responses ++ [respWord st p] := by
  induction sc generalizing past s with
  | respond st p => exact .inr ⟨st, p, h, rfl⟩
  | raise e p => exact .inr ⟨e, p, h, by simp⟩
  | latch v k ih => exact ih v (h v) past (s.setTmp v)
  | assign a k ih => simpa using ih h.2 past (s.assign a)
  | sample k ih =>
    obtain ⟨l, past', u, hu, hrun⟩ | hrest := run_sample_cases tr k past s
    · simpa [hrun, hu.responses] using ih l (h l) past' u
    · exact .inl hrest.responses
  | xfer t k ih =>
    obtain ⟨b, past', u, hu, hrun⟩ | ⟨u, hu, hrun⟩ | hrest := run_xfer_cases tr t k past s
    · simpa [hrun, hu.responses] using ih b (h b) past' u
    · exact .inr ⟨.busError, 0, nofun, by simp [hrun, hu.responses]⟩
    · exact .inl hrest.responses

/-- Where a run ends with `synced` set, `synced` was set before or the script may set it. -/
theorem run_synced_of_within {sc : Script} (h : sc.Within A) {tr : Bool} {past : List Got} {s : State}
    (hset : (run tr sc past s).synced = true) : s.synced = true ∨ A (.synced true) := by
  induction sc generalizing past s with
  | respond st p => exact .inl hset
  | raise e p =>
    rw [run_raise, raiseError_synced, Bool.and_eq_true] at hset
    exact .inl hset.1
  | latch v k ih => exact ih v (h v) (s := s.setTmp v) hset
  | assign a k ih =>
    obtain ⟨ha, hk⟩ := h
    obtain hs | hA := ih hk hset
    · cases a with
      | pos p | feed f => exact .inl hs
      | synced b =>
        obtain rfl : b = true := hs
        exact .inr ha
    · exact .inr hA
  | sample k ih =>
    obtain ⟨l, past', u, hu, hrun⟩ | hrest := run_sample_cases tr k past s
    · rw [← hu.synced]
      exact ih l (h l) (hrun ▸ hset)
    · exact .inl (hrest.synced ▸ hset)
  | xfer t k ih =>
    obtain ⟨b, past', u, hu, hrun⟩ | ⟨u, hu, hrun⟩ | hrest := run_xfer_cases tr t k past s
    · rw [← hu.synced]
      exact ih b (h b) (hrun ▸ hset)
    · rw [hrun, raiseError_synced, Bool.and_eq_true, hu.synced] at hset
      exact .inl hset.1
    · exact .inl (hrest.synced ▸ hset)

end

end Sys2Proof.Machine

namespace Sys2Proof.Proofs
open Sys2Proof.Machine Sys2Proof.Claims

/-- Settles O14: `WRONG_MODE` is the gate's answer and no script's. -/
theorem gateAnswersWrongMode : Obligations.GateAnswersWrongMode := by
  intro i s hidle
  refine ⟨exec_outside_gate hidle, fun hgate => ⟨_, exec_open hidle (gateOf_holds_iff.mpr hgate), fun w hw => ?_⟩⟩
  obtain hnone | ⟨st, p, hst, hone⟩ := run_answer_of_within (scriptOf_within s.cfg i) (isTransition i) [] (s.accept i)
  · simp [hnone] at hw
  · obtain rfl : respWord st p = w := by simpa [hone] using hw
    rw [codeOf_respWord]
    cases st <;> simp [Status.code] at hst ⊢

/-- The state that any command, accepted or in flight, ends in has `synced` set only if it was set or the command is INIT. -/
theorem eq_init_of_exec_sets_synced {i : Instr} {s t : State} (hexec : exec i s = .next t) (hclear : s.synced = false)
    (hset : t.synced = true) : i = .init := by
  rw [exec_eq, Host.Outcome.next.injEq] at hexec
  subst hexec
  have init_of_run {tr : Bool} {past : List Got} {u : State} (hu : u.synced = false)
      (h : (run tr (scriptOf s.cfg i) past u).synced = true) : i = .init := by
    obtain hs | hA := run_synced_of_within (scriptOf_within s.cfg i) h
    · simp [hu] at hs
    · exact hA rfl
  obtain ⟨-, h⟩ | ⟨-, -, h⟩ | ⟨-, -, h⟩ | ⟨f, -, -, -, h⟩ := runCommand_cases i (scriptOf s.cfg i) s <;> rw [h] at hset
  · simp [hclear] at hset
  · simp [hclear] at hset
  · exact init_of_run (u := s.accept i) hclear hset
  · exact init_of_run hclear hset

end Sys2Proof.Proofs

/-! The transition commands (R141 to R146): `Update` against each answer of the transport where its command is a transition,
the three commands that move one tag bit, and the shape of the five scripts: they assign only on the way to `OK`. -/

namespace Sys2Proof.Machine
open Sys2Proof.Claims

section
variable {s s1 s2 t : State} {i : Instr} {es : List BusEvent} {got : List Got} {cfg : Params} {f : Field} {p q : Byte}

/-- A transition that fails clears `synced` with its response (R146, R200). -/
theorem raiseError_transition_running {e : Status} (info : Payload) (he : desyncs e = true) :
    (s.running i es got).raiseError true e info = answered { s with synced := false } es (respWord e info) := by
  rw [State.raiseError, if_pos (by simp [he]), assign_running, finish_running]
  rfl

theorem run_transition_update_readOnly (c : Byte) (k : Script) (hro : ¬ writable cfg (cfg.fields.get f).reg) :
    run true (update cfg f c k) [] (s.running i es got) = answered { s with synced := false } es readOnlyWord := by
  rw [update_of_readOnly c k hro, run_raise, raiseError_transition_running 0 rfl]
  rfl

theorem run_transition_update_readErr (c : Byte) (k : Script) (hw : writable cfg (cfg.fields.get f).reg)
    (hread : s.drawBus = (.err, s1)) :
    run true (update cfg f c k) [] (s.running i es got) =
      answered { s1 with synced := false } (es ++ [readErr cfg (cfg.fields.get f).reg]) busErrorWord := by
  rw [run_update_readErr true c k hw hread, raiseError_transition_running 0 rfl]
  rfl

theorem run_transition_update_writeErr (c : Byte) (k : Script) (hw : writable cfg (cfg.fields.get f).reg)
    (hread : s.drawBus = (.ok p, s1)) (hwrite : s1.drawBus = (.err, s2)) :
    run true (update cfg f c k) [] (s.running i es got) =
      answered { s2 with synced := false, tmp := p } (es ++ [readOk cfg (cfg.fields.get f).reg p,
        writeErr cfg (cfg.fields.get f).reg (composed (cfg.fields.get f) c p)]) busErrorWord := by
  rw [run_update_writeErr true c k hw hread hwrite, raiseError_transition_running 0 rfl]
  rfl

theorem run_transition_memWrite_err {r : ChipReg} (v : Byte) (k : Script) (hw : writable cfg r)
    (hwrite : s.drawBus = (.err, s1)) :
    run true (memWrite cfg r v k) [] (s.running i es got) =
      answered { s1 with synced := false } (es ++ [writeErr cfg r v]) busErrorWord := by
  rw [run_memWrite_err true v k hw hwrite, raiseError_transition_running 0 rfl]
  rfl

theorem drawBus_setTmp {a : BusAnswer} (v : Byte) (hdraw : s.drawBus = (a, s1)) :
    (s.setTmp v).drawBus = (a, s1.setTmp v) := by
  rw [drawBus_of_setTmp, hdraw]

/-- Where it exists, a transition leaves an idle block as its script ends. -/
theorem exec_transition_eq (htr : isTransition i = true) (hidle : s.busy = false) (hgate : existsIn i s)
    (hrun : run true (scriptOf s.cfg i) [] (s.running i [] []) = t) : exec i s = .next t :=
  exec_eq_of_run hidle (gateOf_holds_iff.mpr hgate) (by rwa [htr])

end

/-! ### The commands that move one tag bit -/

/-- `i`, with the command word `w`, is one `Update` of the field `f` to the code `c`, and then the assignment `a`. -/
structure MovesTagBit (i : Instr) (w : CmdWord) (f : Field) (c : Byte) (a : Assign) : Prop where
  word (ft : FieldTable) : decodeWith ft w = .ok i
  transition : isTransition i = true
  script (cfg : Params) : scriptOf cfg i = update cfg f c (.assign a (.respond .ok 0))

theorem disable_movesTagBit : MovesTagBit .disable 0x080000 .feed 0 (.feed .noFeed) := ⟨fun _ => rfl, rfl, fun _ => rfl⟩
theorem toabs_movesTagBit : MovesTagBit .toabs 0x090000 .pos 1 (.pos .absolute) := ⟨fun _ => rfl, rfl, fun _ => rfl⟩
theorem torel_movesTagBit : MovesTagBit .torel 0x0A0000 .pos 0 (.pos .relative) := ⟨fun _ => rfl, rfl, fun _ => rfl⟩

section
variable {s s1 s2 : State} {i : Instr} {w : CmdWord} {f : Field} {c : Byte} {a : Assign} {p q : Byte}

theorem MovesTagBit.exec_readErr (h : MovesTagBit i w f c a) (hidle : s.busy = false) (hgate : existsIn i s)
    (hw : writable s.cfg (s.cfg.fields.get f).reg) (hread : s.drawBus = (.err, s1)) :
    exec i s = .next (answered { s1 with synced := false } [readErr s.cfg (s.cfg.fields.get f).reg] busErrorWord) := by
  refine exec_transition_eq h.transition hidle hgate ?_
  rw [h.script, run_transition_update_readErr c _ hw hread, List.nil_append]

theorem MovesTagBit.exec_writeErr (h : MovesTagBit i w f c a) (hidle : s.busy = false) (hgate : existsIn i s)
    (hw : writable s.cfg (s.cfg.fields.get f).reg) (hread : s.drawBus = (.ok p, s1)) (hwrite : s1.drawBus = (.err, s2)) :
    exec i s = .next (answered { s2 with synced := false, tmp := p } [readOk s.cfg (s.cfg.fields.get f).reg p,
      writeErr s.cfg (s.cfg.fields.get f).reg (composed (s.cfg.fields.get f) c p)] busErrorWord) := by
  refine exec_transition_eq h.transition hidle hgate ?_
  rw [h.script, run_transition_update_writeErr c _ hw hread hwrite, List.nil_append]

theorem MovesTagBit.exec_ok (h : MovesTagBit i w f c a) (hidle : s.busy = false) (hgate : existsIn i s)
    (hw : writable s.cfg (s.cfg.fields.get f).reg) (hread : s.drawBus = (.ok p, s1)) (hwrite : s1.drawBus = (.ok q, s2)) :
    exec i s = .next (answered ((s2.setTmp p).assign a) [readOk s.cfg (s.cfg.fields.get f).reg p,
      writeOk s.cfg (s.cfg.fields.get f).reg (composed (s.cfg.fields.get f) c p)] (okWord 0)) := by
  refine exec_transition_eq h.transition hidle hgate ?_
  rw [h.script, run_update_ok true c _ hw hread hwrite]
  simp

end

/-! ### A tag bit is assigned only on the way to `OK` -/

/-- Nothing but assignments stands before the answer `OK`. -/
def Script.AnswersOk : Script → Prop
  | .respond st _ => st = .ok
  | .assign _ k => k.AnswersOk
  | .raise _ _ => False
  | .xfer _ _ => False
  | .sample _ => False
  | .latch _ _ => False

/-- On every path, the script answers an error only by raising it and before it has assigned anything. -/
def Script.AssignsLast : Script → Prop
  | .respond st _ => st = .ok
  | .assign _ k => k.AnswersOk
  | .raise _ _ => True
  | .xfer _ k => ∀ b, (k b).AssignsLast
  | .sample k => ∀ l, (k l).AssignsLast
  | .latch _ k => ∀ v, (k v).AssignsLast

section
variable {cfg : Params} {k : Script}

theorem memWrite_assignsLast {r : ChipReg} {v : Byte} (h : k.AssignsLast) : (memWrite cfg r v k).AssignsLast := by
  unfold memWrite
  split
  · trivial
  · exact fun _ => h

theorem update_assignsLast {f : Field} {c : Byte} (h : k.AssignsLast) : (update cfg f c k).AssignsLast := by
  unfold update
  split
  · trivial
  · exact fun _ _ => memWrite_assignsLast h

end

theorem scriptOf_assignsLast (cfg : Params) {i : Instr} (hi : i ∈ transitions) : (scriptOf cfg i).AssignsLast := by
  obtain rfl | rfl | rfl | rfl | rfl : i = .init ∨ i = .enable ∨ i = .disable ∨ i = .toabs ∨ i = .torel := by
    simpa [transitions] using hi
  case inl => exact update_assignsLast <| update_assignsLast rfl
  case inr.inl => exact update_assignsLast <| memWrite_assignsLast rfl
  all_goals exact update_assignsLast rfl

theorem isTransition_of_mem {i : Instr} (hi : i ∈ transitions) : isTransition i = true := by
  revert i
  decide

theorem run_responses_of_answersOk {sc : Script} (h : sc.AnswersOk) (tr : Bool) (past : List Got) (s : State) :
    ∃ p, (run tr sc past s).responses = s.responses ++ [respWord .ok p] := by
  induction sc generalizing s with
  | respond st p =>
    obtain rfl : st = .ok := h
    exact ⟨p, rfl⟩
  | assign a k ih => simpa using ih h (s.assign a)
  | raise _ _ | xfer _ _ | sample _ | latch _ _ => exact h.elim

/-- A transition's run that answers an error of R146 leaves the tag and clears `synced`. -/
theorem run_failure_of_assignsLast {sc : Script} (h : sc.AssignsLast) (past : List Got) (s : State) :
    (run true sc past s).responses = s.responses ∨
      ∃ st p, (run true sc past s).responses = s.responses ++ [respWord st p] ∧
        (desyncs st = true → (run true sc past s).tagPos = s.tagPos ∧ (run true sc past s).tagFeed = s.tagFeed ∧
          (run true sc past s).synced = false) := by
  induction sc generalizing past s with
  | respond st p =>
    obtain rfl : st = .ok := h
    exact .inr ⟨.ok, p, rfl, nofun⟩
  | raise e p => exact .inr ⟨e, p, by simp, fun he => by simp [he]⟩
  | latch v k ih => exact ih v (h v) past (s.setTmp v)
  | assign a k _ =>
    obtain ⟨p, hp⟩ := run_responses_of_answersOk h true past (s.assign a)
    exact .inr ⟨.ok, p, by simpa using hp, nofun⟩
  | sample k ih =>
    obtain ⟨l, past', u, hu, hrun⟩ | hrest := run_sample_cases true k past s
    · rw [hrun, ← hu.responses, ← hu.tagPos, ← hu.tagFeed]
      exact ih l (h l) past' u
    · exact .inl hrest.responses
  | xfer t k ih =>
    obtain ⟨b, past', u, hu, hrun⟩ | ⟨u, hu, hrun⟩ | hrest := run_xfer_cases true t k past s
    · rw [hrun, ← hu.responses, ← hu.tagPos, ← hu.tagFeed]
      exact ih b (h b) past' u
    · exact .inr ⟨.busError, 0, by simp [hrun, hu.responses],
        fun _ => by simp [hrun, hu.tagPos, hu.tagFeed, desyncs]⟩
    · exact .inl hrest.responses

end Sys2Proof.Machine

namespace Sys2Proof.Proofs
open Sys2Proof.Machine Sys2Proof.Claims

/-- Settles O29: INIT is two `Update`s, each of which can fail at its register, its read or its write. -/
theorem initReachesRelativeNoFeed : Obligations.InitReachesRelativeNoFeed := by
  intro s s1 s2 s3 s4 p q p2 q2 hidle fd ps
  have exec_of_run {t : State} : run true (initScript s.cfg) [] (s.running .init [] []) = t → exec .init s = .next t :=
    exec_transition_eq (i := .init) rfl hidle trivial
  refine ⟨rfl, fun hro => ?readOnly, fun hw herr => ?readErr, fun hw hread herr => ?writeErr,
    fun hw hread hwrite hro => ?readOnly2, fun hw hread hwrite hw2 herr => ?readErr2,
    fun hw hread hwrite hw2 hread2 herr => ?writeErr2, fun hw hread hwrite hw2 hread2 hwrite2 => ?ok⟩
  all_goals refine exec_of_run ?_
  case readOnly => exact run_transition_update_readOnly (f := .feed) 0 _ hro
  case readErr => exact run_transition_update_readErr (f := .feed) 0 _ hw herr
  case writeErr => exact run_transition_update_writeErr (f := .feed) 0 _ hw hread herr
  all_goals refine (run_update_ok (f := .feed) true 0 _ hw hread hwrite).trans ?_
  case readOnly2 => exact run_transition_update_readOnly (f := .pos) 0 _ hro
  case readErr2 => exact run_transition_update_readErr (f := .pos) 0 _ hw2 (drawBus_setTmp p herr)
  case writeErr2 =>
    exact run_transition_update_writeErr (f := .pos) (s2 := s4.setTmp p) 0 _ hw2 (drawBus_setTmp p hread2)
      (drawBus_setTmp p herr)
  case ok =>
    exact run_update_ok (f := .pos) (s2 := s4.setTmp p) true 0 _ hw2 (drawBus_setTmp p hread2) (drawBus_setTmp p hwrite2)

/-- Settles O31: ENABLE is an `Update` and then the write of 0x00 to STATUS1. -/
theorem enableSwitchesTheFeedOn : Obligations.EnableSwitchesTheFeedOn := by
  intro s s1 s2 s3 p q q2 hidle fd gate
  have exec_of_run {t : State} (hgate : gate) :
      run true (enableScript s.cfg) [] (s.running .enable [] []) = t → exec .enable s = .next t :=
    exec_transition_eq (i := .enable) rfl hidle hgate
  refine ⟨rfl, exec_outside_gate (i := .enable) hidle, fun hgate hw herr => ?readErr, fun hgate hw hread herr => ?writeErr,
    fun hgate hw hws hread hwrite herr => ?clearErr, fun hgate hw hws hread hwrite hclear => ?ok⟩
  all_goals refine exec_of_run hgate ?_
  case readErr => exact run_transition_update_readErr (f := .feed) 1 _ hw herr
  case writeErr => exact run_transition_update_writeErr (f := .feed) 1 _ hw hread herr
  all_goals refine (run_update_ok (f := .feed) true 1 _ hw hread hwrite).trans ?_
  case clearErr => exact run_transition_memWrite_err 0x00 _ hws (drawBus_setTmp p herr)
  case ok => exact run_memWrite_ok true 0x00 _ hws (drawBus_setTmp p hclear)

/-- Settles O32: each of the three is one `Update` and one assignment, which leaves the other tag bit. -/
theorem disableToabsTorelMoveOneTagBit : Obligations.DisableToabsTorelMoveOneTagBit := by
  intro s s1 s2 p q hidle i w gate sp c pos feed hcmd
  have hmoves : ∃ f a, MovesTagBit i w f c a ∧ sp = s.cfg.fields.get f ∧ gate = existsIn i s ∧
      (gate → ∀ u : State, u.tagPos = s.tagPos → u.tagFeed = s.tagFeed →
        u.assign a = { u with tagPos := pos, tagFeed := feed }) := by
    obtain ⟨rfl, rfl, rfl, rfl, rfl, rfl, rfl⟩ | ⟨rfl, rfl, rfl, rfl, rfl, rfl, rfl⟩ |
      ⟨rfl, rfl, rfl, rfl, rfl, rfl, rfl⟩ := hcmd
    case inl =>
      refine ⟨.feed, _, disable_movesTagBit, rfl, rfl, fun _ u hpos _ => ?_⟩
      rw [← hpos]
      rfl
    case inr.inl =>
      refine ⟨.pos, _, toabs_movesTagBit, rfl, rfl, fun ⟨_, _, hon⟩ u _ hfeed => ?_⟩
      rw [← hon, ← hfeed]
      rfl
    case inr.inr =>
      refine ⟨.pos, _, torel_movesTagBit, rfl, rfl, fun ⟨_, _, hon⟩ u _ hfeed => ?_⟩
      rw [← hon, ← hfeed]
      rfl
  obtain ⟨f, a, h, rfl, rfl, hassign⟩ := hmoves
  refine ⟨h.word _, exec_outside_gate hidle, h.exec_readErr hidle, h.exec_writeErr hidle,
    fun hgate hw hread hwrite => ?ok⟩
  have h1 := showsAs_of_drawBus hread
  have h2 := showsAs_of_drawBus hwrite
  rw [h.exec_ok hidle hgate hw hread hwrite,
    hassign hgate (s2.setTmp p) (h2.tagPos.trans h1.tagPos) (h2.tagFeed.trans h1.tagFeed)]
  rfl

/-- Settles O33: a transition assigns only on the way to `OK`, and only INIT assigns `synced`. -/
theorem failedTransitionClearsSynced : Obligations.FailedTransitionClearsSynced := by
  refine ⟨fun i s t w hi hidle hgate hexec hone hcode => ?failed, fun i s _ hidle => exec_outside_gate hidle,
    fun i s t => eq_init_of_exec_sets_synced⟩
  rw [exec_open hidle (gateOf_holds_iff.mpr hgate), isTransition_of_mem hi, Host.Outcome.next.injEq] at hexec
  subst hexec
  obtain hnone | ⟨st, p, hresp, hfailed⟩ := run_failure_of_assignsLast (scriptOf_assignsLast s.cfg hi) [] (s.accept i)
  · simp [hnone] at hone
  · obtain rfl : respWord st p = w := by simpa [hresp] using hone
    exact hfailed (desyncs_iff_codeOf.mpr hcode)

end Sys2Proof.Proofs

/-! The packet decoders and the clamp (R162 to R167): each by its bits or numbers, and their obligations. -/

namespace Sys2Proof.Machine

/-! ### The signed delta (R163) -/

/-- `toInt9` reads the byte with the sign bit on top as a 9-bit two's complement number. -/
theorem toInt9_eq_toInt_append (s : Bool) (m : Byte) : toInt9 s m = (BitVec.ofBool s ++ m).toInt := by
  rw [BitVec.toInt_append, BitVec.toInt_ofBool]
  cases s
  · simp [toInt9]
  · simp [toInt9, Int.sub_eq_add_neg, Int.add_comm]

theorem ofInt_toInt9 (s : Bool) (m : Byte) : BitVec.ofInt 9 (toInt9 s m) = BitVec.ofBool s ++ m := by
  rw [toInt9_eq_toInt_append]
  exact BitVec.ofInt_toInt

theorem toInt9_inj {s s' : Bool} {m : Byte} : toInt9 s m = toInt9 s' m ↔ s = s' := by
  rw [toInt9_eq_toInt_append, toInt9_eq_toInt_append, BitVec.toInt_inj, BitVec.append_left_inj, BitVec.ofBool_eq_iff_eq]

/-- The 8-bit reading takes the byte's own high bit for the sign. -/
theorem toInt9_msb (m : Byte) : toInt9 m.msb m = m.toInt := (BitVec.toInt_eq_msb_cond m).symm

/-! ### The relative packet (R162, R68) -/

theorem ofBool_getLsbD (b : Byte) (i : Nat) : BitVec.ofBool (b.getLsbD i) = b.extractLsb' i 1 := by
  ext j hj
  obtain rfl : j = 0 := by omega
  simp

/-- The delta whose sign is bit `i` of `b`. -/
theorem toInt9_getLsbD (b m : Byte) (i : Nat) :
    toInt9 (b.getLsbD i) m = if b.extractLsb' i 1 = 1 then (m.toNat : Int) - 256 else m.toNat := by
  simp [toInt9, BitVec.getLsbD_eq_extractLsb']

/-- The mask 0x37 keeps the five bits of the first byte that `RelDecode` reads. -/
theorem relDecode_and_37 (b0 b1 b2 : Byte) : relDecode (b0 &&& 0x37) b1 b2 = relDecode b0 b1 b2 := by
  simp [relDecode]

/-- The two deltas fill the low 18 bits of the payload. -/
theorem relPayload_extractLsb' (d : RelativeData) {start len : Nat} (h : start + len ≤ 18) :
    (relPayload d).extractLsb' start len = (BitVec.ofInt 9 d.yDelta ++ BitVec.ofInt 9 d.xDelta).extractLsb' start len := by
  rw [relPayload]
  iterate 4 rw [BitVec.extractLsb'_append_eq_of_add_le (by omega)]

/-! ### The absolute packet (R165, R166) -/

theorem setWidth_and_3F (b : Byte) : (b &&& 0x3F).setWidth 6 = b.extractLsb' 0 6 := by
  have hmask : (0x3F : Byte).setWidth 6 = BitVec.allOnes 6 := rfl
  rw [BitVec.setWidth_and, hmask, BitVec.and_allOnes, BitVec.setWidth_eq_extractLsb' (by decide)]

theorem setWidth_and_0F (b : Byte) : (b &&& 0x0F).setWidth 12 = (b.extractLsb' 0 4).setWidth 12 := by
  have hmask : b &&& (0x0F : Byte) = (b.setWidth 4).setWidth 8 :=
    (BitVec.and_setWidth_allOnes 4 4 b).trans (BitVec.setWidth_eq_append (by decide)).symm
  rw [hmask, BitVec.setWidth_setWidth (by decide), ← BitVec.setWidth_eq_extractLsb' (by decide : 4 ≤ 8)]

/-- The high nibble, masked in place, is moved by 4 to where the nibble itself is moved by 8. -/
theorem setWidth_and_F0_shift (b : Byte) :
    (b &&& 0xF0).setWidth 12 <<< 4 = (b.extractLsb' 4 4).setWidth 12 <<< 8 := by
  have hmask : b &&& (0xF0 : Byte) = b >>> 4 <<< 4 := (BitVec.shiftLeft_ushiftRight (n := 4)).symm
  rw [hmask]
  ext i hi
  grind

theorem byte_or_nibble_shift (h : BitVec 4) (l : Byte) : l.setWidth 12 ||| h.setWidth 12 <<< 8 = h ++ l := by
  rw [BitVec.append_def, BitVec.shiftLeftZeroExtend_eq, BitVec.setWidth'_eq, BitVec.or_comm]

theorem nibble_append_byte (v : BitVec 12) : v.extractLsb' 8 4 ++ v.extractLsb' 0 8 = v :=
  (BitVec.extractLsb'_append_extractLsb'_eq_extractLsb' rfl).trans BitVec.extractLsb'_eq_self

theorem absDecode_eq (bb xl yl hn zb : Byte) : absDecode bb xl yl hn zb =
    ⟨bb.extractLsb' 0 6, hn.extractLsb' 0 4 ++ xl, hn.extractLsb' 4 4 ++ yl, zb.extractLsb' 0 6⟩ := by
  rw [absDecode, setWidth_and_3F, setWidth_and_3F, setWidth_and_0F, setWidth_and_F0_shift, byte_or_nibble_shift,
    byte_or_nibble_shift]

/-- Five bytes that carry the sample `d`, the bits without effect clear. -/
theorem absDecode_of_sample (d : AbsoluteData) :
    absDecode (0#2 ++ d.buttonState) (d.xPos.extractLsb' 0 8) (d.yPos.extractLsb' 0 8)
      (d.yPos.extractLsb' 8 4 ++ d.xPos.extractLsb' 8 4) (0#2 ++ d.zLevel) = d := by
  simp only [absDecode_eq, BitVec.extractLsb'_append_eq_right, BitVec.extractLsb'_append_eq_left, nibble_append_byte]

/-! ### The clamp (R167) -/

theorem clampTo_toNat (lo hi v : BitVec 12) : (clampTo lo hi v).toNat = min (max v.toNat lo.toNat) hi.toNat := by
  simp only [clampTo, BitVec.lt_def]
  split <;> split <;> omega

/-- The other form of the clamp, the same where the bounds are in order. -/
theorem clampTo_toNat_of_le {lo hi : BitVec 12} (v : BitVec 12) (h : lo ≤ hi) :
    (clampTo lo hi v).toNat = max (min v.toNat hi.toNat) lo.toNat := by
  rw [clampTo_toNat, max_min_distrib_right, max_eq_left (BitVec.le_def.mp h)]

theorem clamp_of_off {cfg : Params} (d : AbsoluteData) (h : cfg.clampEnable = false) : clamp cfg d = d := by
  simp [clamp, h]

theorem clamp_of_on {cfg : Params} (d : AbsoluteData) (h : cfg.clampEnable = true) : clamp cfg d =
    { d with xPos := clampTo cfg.xLower cfg.xUpper d.xPos, yPos := clampTo cfg.yLower cfg.yUpper d.yPos } := by
  simp [clamp, h]

end Sys2Proof.Machine

namespace Sys2Proof.Proofs
open Sys2Proof.Machine

/-- Settles O44: the pattern `{s, m}` gives the value, and with it the bounds of a 9-bit number. -/
theorem signedDeltaIsNineBitTwosComplement : Obligations.SignedDeltaIsNineBitTwosComplement := by
  intro s m
  have hvalue := toInt9_eq_toInt_append s m
  refine ⟨by rintro rfl; rfl, by rintro rfl; rfl, hvalue, ofInt_toInt9 s m, ?lower, ?upper, ?differs⟩
  case lower =>
    rw [hvalue]
    exact BitVec.le_toInt _
  case upper =>
    rw [hvalue]
    exact Int.le_of_lt_add_one BitVec.toInt_lt
  case differs => rw [← toInt9_msb, Ne, toInt9_inj]

/-- Settles O45: a one-bit slice of the first byte is each button and each sign, and `toInt9` of a sign is the slice on top
of the magnitude byte. -/
theorem relDecodeReadsFiveBitsOfTheFirstByte : Obligations.RelDecodeReadsFiveBitsOfTheFirstByte := by
  intro b0 b1 b2
  refine ⟨(relDecode_and_37 b0 b1 b2).symm, BitVec.getLsbD_eq_extractLsb' b0 0, BitVec.getLsbD_eq_extractLsb' b0 1,
    BitVec.getLsbD_eq_extractLsb' b0 2, toInt9_getLsbD b0 b1 4, toInt9_getLsbD b0 b2 5, ?xSlice, ?ySlice⟩
  case xSlice =>
    rw [relPayload_extractLsb' _ (by decide), BitVec.extractLsb'_append_eq_right, relDecode, ofInt_toInt9, ofBool_getLsbD]
  case ySlice =>
    rw [relPayload_extractLsb' _ (by decide), BitVec.extractLsb'_append_eq_left, relDecode, ofInt_toInt9, ofBool_getLsbD]

/-- Settles O46: each number of a sample is cut back into the bytes that assemble it. -/
theorem absDecodeAssemblesEveryValue : Obligations.AbsDecodeAssemblesEveryValue :=
  ⟨absDecode_eq, fun d => ⟨_, _, _, _, _, absDecode_of_sample d⟩⟩

/-- Settles O47: both axes are clamped by `clampTo`, which has both forms. -/
theorem clampBringsIntoRange : Obligations.ClampBringsIntoRange := by
  intro cfg d hx hy
  refine ⟨clamp_of_off d, fun hon => ?_⟩
  rw [clamp_of_on d hon]
  exact ⟨clampTo_toNat .., clampTo_toNat_of_le _ hx, clampTo_toNat .., clampTo_toNat_of_le _ hy, rfl, rfl⟩

end Sys2Proof.Proofs

/-! The data-ready gate (R161) against each sample of the line, and a status read that finds no data (R169). -/

namespace Sys2Proof.Machine
open Sys2Proof.Claims

section
variable {s s0 s1 : State} {i : Instr} {es : List BusEvent} {got : List Got} {cfg : Params} {st : Byte}

@[simp] theorem drawPin_running :
    (s.running i es got).drawPin = (s.drawPin.1, s.drawPin.2.running i es got) := by
  unfold State.drawPin
  cases h : s.pinIn <;> simp [State.running, h]

theorem run_sample_running {l : PinLevel} (tr : Bool) (k : PinLevel → Script) (hdraw : s.drawPin = (l, s1)) :
    run tr (.sample k) [] (s.running i es got) =
      run tr (k l) [] (s1.running i (es ++ [.pin l]) (got ++ [.level l])) := by
  rw [run_sample]
  simp [hdraw]

/-- A low line ends the command before any transaction. -/
theorem run_dataReady_low (tr : Bool) (ready : Script) (hpin : cfg.hasReadyPin = true) (hlow : s.drawPin = (.low, s0)) :
    run tr (dataReady cfg ready) [] (s.running i es got) = answered s0 (es ++ [.pin .low]) noDataWord := by
  rw [dataReady, if_pos hpin, run_sample_running tr _ hlow]
  rfl

/-- A line that is absent or high leads on to the status read. -/
theorem run_dataReady_lineLets (tr : Bool) (ready : Script) (hline : lineLets s s0 es) :
    ∃ got, run tr (dataReady s.cfg ready) [] (s.running i [] []) =
      run tr (statusReady s.cfg ready) [] (s0.running i es got) := by
  obtain ⟨habsent, rfl, rfl⟩ | ⟨hpin, hhigh, rfl⟩ := hline
  · exact ⟨[], by simp [dataReady, habsent]⟩
  · exact ⟨_, by rw [dataReady, if_pos hpin, run_sample_running tr _ hhigh, List.nil_append]⟩

/-- A status read that brings the data-ready bit clear ends the command. -/
theorem run_statusReady_clear (tr : Bool) (ready : Script) (hread : s.drawBus = (.ok st, s1))
    (hclear : st &&& cfg.drMask = 0) :
    run tr (statusReady cfg ready) [] (s.running i es got) =
      answered s1 (es ++ [readOk cfg .status1 st]) noDataWord := by
  rw [statusReady, run_memRead_ok tr _ hread, if_pos hclear]
  rfl

end

/-- A data command is the data-ready gate before its packet reads (R170, R171). -/
theorem scriptOf_dataCommand (cfg : Params) {i : Instr} (hi : i ∈ dataCommands) :
    ∃ packet, scriptOf cfg i = dataReady cfg packet := by
  obtain rfl | rfl : i = .reldata ∨ i = .absdata := by simpa [dataCommands] using hi
  · exact ⟨_, rfl⟩
  · exact ⟨_, rfl⟩

/-- Where it exists, a data command leaves an idle block as the data-ready gate ends, if that does not depend on what the
gate leads on to. -/
theorem exec_dataCommand_eq {i : Instr} {s t : State} (hi : i ∈ dataCommands) (hidle : s.busy = false)
    (hgate : existsIn i s)
    (hrun : ∀ packet, run (isTransition i) (dataReady s.cfg packet) [] (s.running i [] []) = t) :
    exec i s = .next t := by
  obtain ⟨packet, hscript⟩ := scriptOf_dataCommand s.cfg hi
  exact exec_eq_of_run hidle (gateOf_holds_iff.mpr hgate) (by rw [hscript, hrun])

end Sys2Proof.Machine

namespace Sys2Proof.Proofs
open Sys2Proof.Machine

/-- Settles O42: a low line, or a status byte with the data-ready bit clear, ends either command at its data-ready gate. -/
theorem notReadyAnswersNoData : Obligations.NotReadyAnswersNoData := by
  intro i s s0 s1 es st hi hidle hgate
  refine ⟨fun hpin hlow => ?low, fun hline hread hclear => ?clear⟩
  all_goals refine exec_dataCommand_eq hi hidle hgate fun packet => ?_
  case low => exact run_dataReady_low _ packet hpin hlow
  case clear =>
    obtain ⟨got, hrun⟩ := run_dataReady_lineLets (isTransition i) packet hline
    rw [hrun, run_statusReady_clear _ packet hread hclear]

end Sys2Proof.Proofs

/-! The errors that report the environment, `BUS_ERROR` (R192) and `PIN_ERROR` (R193): no script answers them of itself, so
each of them comes from a transaction that failed or a sample that faulted, and that is the last thing a command does. -/

namespace Sys2Proof.Machine
open Sys2Proof.Claims

/-! ### What the scripts answer, and when they sample -/

/-- On every path, the script makes a sample only where `may` allows it and before any transaction, answers one that faults
with `PIN_ERROR` at once, and otherwise answers neither `BUS_ERROR` nor `PIN_ERROR`. -/
def Script.ReportsFaults : Script → Prop → Prop
  | .respond st _, _ => st ≠ .busError ∧ st ≠ .pinError
  | .raise e _, _ => e ≠ .busError ∧ e ≠ .pinError
  | .xfer _ k, _ => ∀ b, (k b).ReportsFaults False
  | .sample k, may =>
    may ∧ k .fault = .raise .pinError 0 ∧ (k .low).ReportsFaults False ∧ (k .high).ReportsFaults False
  | .latch _ k, may => ∀ v, (k v).ReportsFaults may
  | .assign _ k, may => k.ReportsFaults may

section
variable {may : Prop} {cfg : Params} {k : Script}

theorem memWrite_reportsFaults {r : ChipReg} {v : Byte} (h : k.ReportsFaults False) :
    (memWrite cfg r v k).ReportsFaults may := by
  unfold memWrite
  split
  · exact ⟨nofun, nofun⟩
  · exact fun _ => h

theorem update_reportsFaults {f : Field} {c : Byte} (h : k.ReportsFaults False) :
    (update cfg f c k).ReportsFaults may := by
  unfold update
  split
  · exact ⟨nofun, nofun⟩
  · exact fun _ _ => memWrite_reportsFaults h

theorem statusReady_reportsFaults (h : k.ReportsFaults False) : (statusReady cfg k).ReportsFaults may := by
  intro st
  dsimp only
  split
  · exact ⟨nofun, nofun⟩
  · exact h

theorem dataReady_reportsFaults (hmay : may) (h : k.ReportsFaults False) : (dataReady cfg k).ReportsFaults may := by
  unfold dataReady
  split
  · exact ⟨hmay, rfl, ⟨nofun, nofun⟩, statusReady_reportsFaults h⟩
  · exact statusReady_reportsFaults h

theorem getScript_reportsFaults (f : Field) : (getScript cfg f).ReportsFaults may := by
  intro p
  dsimp only
  split <;> exact ⟨nofun, nofun⟩

theorem wrScript_reportsFaults (r : ChipReg) (b : Byte) : (wrScript cfg r b).ReportsFaults may := by
  have hwrite : (memWrite cfg r b (.respond .ok 0)).ReportsFaults may :=
    memWrite_reportsFaults ⟨nofun, nofun⟩
  unfold wrScript
  split
  · exact ⟨nofun, nofun⟩
  · dsimp only
    split <;> exact hwrite

end

/-- Only the data commands sample the line (R160, R161). -/
theorem scriptOf_reportsFaults (cfg : Params) (i : Instr) : (scriptOf cfg i).ReportsFaults (i ∈ dataCommands) := by
  cases i
  case init => exact update_reportsFaults <| update_reportsFaults <| ⟨nofun, nofun⟩
  case rd r | devid => exact fun _ => ⟨nofun, nofun⟩
  case wr r b => exact wrScript_reportsFaults r b
  case clrst => exact memWrite_reportsFaults ⟨nofun, nofun⟩
  case enable => exact update_reportsFaults <| memWrite_reportsFaults <| ⟨nofun, nofun⟩
  case disable | toabs | torel => exact update_reportsFaults <| ⟨nofun, nofun⟩
  case reldata =>
    exact dataReady_reportsFaults (by decide) fun _ _ _ => memWrite_reportsFaults ⟨nofun, nofun⟩
  case absdata =>
    exact dataReady_reportsFaults (by decide) fun _ _ _ _ _ => memWrite_reportsFaults ⟨nofun, nofun⟩
  case getPower | getFeed | getPos | getFilter | getAxisEn | getAxisInv | getAxisSwap | getScroll | getTap | getGlide
      | getImouse =>
    exact getScript_reportsFaults _
  case setPower c | setFilter c | setAxisEn c | setAxisInv c | setAxisSwap c | setScroll c | setTap c | setGlide c
      | setImouse c =>
    exact update_reportsFaults ⟨nofun, nofun⟩

/-! ### How a command ends -/

/-- How a command that found the traffic `es0` and the responses `rs0` left them in `t`, where `sampled` says whether it may
have made a sample: without a fault of the environment,
or at the one failed transaction or the one faulted sample, which is the last thing it put outside. -/
inductive State.EndsFrom (es0 : List BusEvent) (rs0 : List RespWord) (sampled : Prop) (t : State) : Prop
  /-- no transaction failed, and a response, where there is one, is neither `BUS_ERROR` nor `PIN_ERROR` -/
  | faultless (es : List BusEvent) (traffic : t.traffic = es0 ++ es) (noErr : ∀ e ∈ es, isErr e = false)
      (response : ∀ w, t.responses = rs0 ++ [w] → codeOf w ≠ 2 ∧ codeOf w ≠ 3)
  /-- the last transaction failed, and no other -/
  | busError (es : List BusEvent) (e : BusEvent) (traffic : t.traffic = es0 ++ (es ++ [e]))
      (noErr : ∀ e ∈ es, isErr e = false) (err : isErr e = true) (response : t.responses = rs0 ++ [busErrorWord])
  /-- the first sample faulted, before any transaction -/
  | pinError (allowed : sampled) (traffic : t.traffic = es0 ++ [.pin .fault])
      (response : t.responses = rs0 ++ [pinErrorWord])

theorem isErr_okResult (x : Txn) (b : Byte) : isErr (.txn x (okResult x b)) = false := by cases x <;> rfl

@[simp] theorem respWord_pinError : respWord .pinError 0#36 = pinErrorWord := rfl
theorem codeOf_busErrorWord : codeOf busErrorWord = 2 := rfl
theorem codeOf_pinErrorWord : codeOf pinErrorWord = 3 := rfl

/-- Only the statuses `BUS_ERROR` and `PIN_ERROR` have the codes 2 and 3 (R67). -/
theorem codeOf_respWord_of_ne {st : Status} (p : Payload) (h : st ≠ .busError ∧ st ≠ .pinError) :
    codeOf (respWord st p) ≠ 2 ∧ codeOf (respWord st p) ≠ 3 := by
  rw [codeOf_respWord]
  revert h
  cases st <;> decide

section
variable {es0 : List BusEvent} {rs0 : List RespWord} {sampled : Prop} {t : State}

theorem endsFrom_of_unanswered (htraffic : t.traffic = es0) (hresponses : t.responses = rs0) :
    t.EndsFrom es0 rs0 sampled :=
  .faultless [] (by simp [htraffic]) nofun (by simp [hresponses])

theorem endsFrom_of_answer {st : Status} {p : Payload} (hst : st ≠ .busError ∧ st ≠ .pinError)
    (htraffic : t.traffic = es0) (hresponses : t.responses = rs0 ++ [respWord st p]) : t.EndsFrom es0 rs0 sampled := by
  refine .faultless [] (by simp [htraffic]) nofun fun w hw => ?_
  obtain rfl : respWord st p = w := by simpa [hresponses] using hw
  exact codeOf_respWord_of_ne p hst

/-- An event that is no failed transaction may stand before an ending whose command samples no more. -/
theorem State.EndsFrom.after {e : BusEvent} (he : isErr e = false) (h : t.EndsFrom (es0 ++ [e]) rs0 False) :
    t.EndsFrom es0 rs0 sampled := by
  cases h with
  | faultless es traffic noErr response =>
    exact .faultless (e :: es) (by simp [traffic]) (by simpa [he] using noErr) response
  | busError es e' traffic noErr err response =>
    exact .busError (e :: es) e' (by simp [traffic]) (by simpa [he] using noErr) err response
  | pinError allowed => exact allowed.elim

/-- At a transaction that has no answer yet the run stops, and nothing has ended or been answered. -/
theorem run_xfer_unanswered_endsFrom {s : State} (transition : Bool) (x : Txn) (k : Byte → Script)
    (ha : s.drawBus.1 = .stall ∨ s.drawBus.1 = .later) (htraffic : s.traffic = es0) (hresponses : s.responses = rs0) :
    (run transition (.xfer x k) [] s).EndsFrom es0 rs0 sampled := by
  obtain ha | ha := ha
  · rw [run_xfer_stall transition x k ha]
    exact endsFrom_of_unanswered (by simpa using htraffic) (by simpa using hresponses)
  · rw [run_xfer_later transition x k ha]
    exact endsFrom_of_unanswered (by simpa using htraffic) (by simpa using hresponses)

/-- A run from the start of a script ends as the script reports. -/
theorem run_endsFrom {sc : Script} {may : Prop} (h : sc.ReportsFaults may) (transition : Bool) {s : State}
    (htraffic : s.traffic = es0) (hresponses : s.responses = rs0) :
    (run transition sc [] s).EndsFrom es0 rs0 may := by
  induction sc generalizing may es0 s with
  | respond st p => exact endsFrom_of_answer (p := p) h htraffic (by simp [hresponses])
  | raise e p => exact endsFrom_of_answer (p := p) h (by simp [htraffic]) (by simp [hresponses])
  | latch v k ih => exact ih v (h v) htraffic hresponses
  | assign a k ih => exact ih h (by simp [htraffic]) (by simp [hresponses])
  | sample k ih =>
    obtain ⟨hmay, hfault, hlow, hhigh⟩ := h
    rw [run_sample]
    cases s.drawPin.1 with
    | fault =>
      rw [hfault, run_raise]
      exact .pinError hmay (by simp [htraffic]) (by simp [hresponses])
    | low => exact .after (e := .pin .low) rfl (ih _ hlow (by simp [htraffic]) (by simp [hresponses]))
    | high => exact .after (e := .pin .high) rfl (ih _ hhigh (by simp [htraffic]) (by simp [hresponses]))
  | xfer x k ih =>
    match ha : s.drawBus.1 with
    | .ok b =>
      rw [run_xfer_ok transition x k ha]
      exact .after (e := .txn x (okResult x b)) (isErr_okResult x b)
        (ih b (h b) (by simp [htraffic]) (by simp [hresponses]))
    | .err =>
      rw [run_xfer_err transition x k ha]
      exact .busError [] (.txn x .err) (by simp [htraffic]) nofun rfl (by simp [hresponses])
    | .stall => exact run_xfer_unanswered_endsFrom transition x k (.inl ha) htraffic hresponses
    | .later => exact run_xfer_unanswered_endsFrom transition x k (.inr ha) htraffic hresponses

end

/-- How any command that an idle block runs ends; one that the gate refuses ends without a fault. -/
theorem exec_endsFrom {i : Instr} {s t : State} (hidle : s.busy = false) (hexec : exec i s = .next t) :
    t.EndsFrom s.traffic s.responses (i ∈ dataCommands) := by
  cases hgate : (gateOf i).holds s with
  | false =>
    rw [exec_shut hidle hgate, Host.Outcome.next.injEq] at hexec
    subst hexec
    exact endsFrom_of_answer (st := .wrongMode) ⟨nofun, nofun⟩ rfl rfl
  | true =>
    rw [exec_open hidle hgate, Host.Outcome.next.injEq] at hexec
    subst hexec
    exact run_endsFrom (scriptOf_reportsFaults s.cfg i) (isTransition i) (s := s.accept i) rfl rfl

/-! ### A sample that faults -/

section
variable {s s0 : State} {i : Instr} {es : List BusEvent} {got : List Got} {cfg : Params}

/-- An error outside R146 leaves `synced` as it is, whatever command raises it (R200). -/
theorem raiseError_running_of_not_desyncs (transition : Bool) {e : Status} (info : Payload) (he : desyncs e = false) :
    (s.running i es got).raiseError transition e info = answered s es (respWord e info) := by
  rw [State.raiseError, if_neg (by simp [he]), finish_running]

/-- A line that faults ends the command before any transaction (R193). -/
theorem run_dataReady_fault (transition : Bool) (ready : Script) (hpin : cfg.hasReadyPin = true)
    (hfault : s.drawPin = (.fault, s0)) :
    run transition (dataReady cfg ready) [] (s.running i es got) = answered s0 (es ++ [.pin .fault]) pinErrorWord := by
  rw [dataReady, if_pos hpin, run_sample_running transition _ hfault, run_raise,
    raiseError_running_of_not_desyncs transition 0 rfl]
  rfl

end

end Sys2Proof.Machine

namespace Sys2Proof.Proofs
open Sys2Proof.Machine Sys2Proof.Claims

/-- Settles O13: each of the three endings of a command says whether its last event is a failed transaction, and its
response is `BUS_ERROR` just where it is. -/
theorem firstBusErrorEndsTheCommand : Obligations.FirstBusErrorEndsTheCommand := by
  intro i s t hidle hexec
  cases exec_endsFrom hidle hexec with
  | faultless es traffic noErr response =>
    refine ⟨es, traffic, fun e he => noErr e (List.mem_of_mem_dropLast he), ⟨?noErrLast, ?noBusError⟩, ?code⟩
    case noErrLast =>
      rintro ⟨e, he, herr⟩
      simp [noErr e (List.mem_of_getLast? he)] at herr
    case noBusError => exact fun hresp => absurd codeOf_busErrorWord (response _ hresp).1
    case code => exact fun w hw hcode => absurd hcode (response w hw).1
  | busError es e traffic noErr err response =>
    exact ⟨es ++ [e], traffic, by simpa using noErr, by simp [err, response],
      fun w hw _ => by simpa [response] using hw.symm⟩
  | pinError _ traffic response =>
    refine ⟨_, traffic, nofun, ⟨?noErrLast, ?noBusError⟩, ?code⟩
    case noErrLast => simp [isErr]
    case noBusError => simp [response, pinErrorWord, busErrorWord]
    case code =>
      intro w hw hcode
      obtain rfl : pinErrorWord = w := by simpa [response] using hw
      simp [codeOf_pinErrorWord] at hcode

/-- Settles O43: the sample is what a data command does first, and of the three endings of a command only that at a faulted
sample has status 3. -/
theorem pinFaultAnswersPinError : Obligations.PinFaultAnswersPinError := by
  refine ⟨fun i s s0 hi hidle hgate hpin hfault => ?fault, fun i s t w hidle hexec hw hcode => ?only⟩
  case fault => exact exec_dataCommand_eq hi hidle hgate fun packet => run_dataReady_fault _ packet hpin hfault
  case only =>
    cases exec_endsFrom hidle hexec with
    | faultless es traffic noErr response => exact absurd hcode (response w hw).2
    | busError es e traffic noErr err response =>
      obtain rfl : busErrorWord = w := by simpa [response] using hw
      simp [codeOf_busErrorWord] at hcode
    | pinError hi traffic response => exact ⟨hi, traffic⟩

end Sys2Proof.Proofs

/-! Decode of encode and encode of decode (R69): the formats of R61 as a classification of the instructions, what each operand
decoder accepts, and the rows of the opcode table against each other. -/

namespace Sys2Proof
open Sys2Proof.Machine Sys2Proof.Claims

/-- The instructions of format N (R61): no operand. -/
def instrsN : List Instr := [.init, .clrst, .enable, .disable, .toabs, .torel, .reldata, .absdata, .devid]

/-- The five formats of R61: N, R, W, F and V. -/
inductive Instr.HasFormat : Instr → Prop
  | bare {i : Instr} (h : i ∈ instrsN) : HasFormat i
  | rd (r : ChipReg) : HasFormat (.rd r)
  | wr (r : ChipReg) (b : Byte) : HasFormat (.wr r b)
  | get (f : Field) : HasFormat (getterOf f)
  | set (f : Field) {c : Byte} {i : Instr} (h : setterOf f c = some i) : HasFormat i

theorem Instr.hasFormat : ∀ i : Instr, i.HasFormat
  | .init | .clrst | .enable | .disable | .toabs | .torel | .reldata | .absdata | .devid => .bare (by decide)
  | .rd r => .rd r
  | .wr r b => .wr r b
  | .getPower => .get .power
  | .getFeed => .get .feed
  | .getPos => .get .pos
  | .getFilter => .get .filter
  | .getAxisEn => .get .axisEn
  | .getAxisInv => .get .axisInv
  | .getAxisSwap => .get .axisSwap
  | .getScroll => .get .scroll
  | .getTap => .get .tap
  | .getGlide => .get .glide
  | .getImouse => .get .imouse
  | .setPower _ => .set .power rfl
  | .setFilter _ => .set .filter rfl
  | .setAxisEn _ => .set .axisEn rfl
  | .setAxisInv _ => .set .axisInv rfl
  | .setAxisSwap _ => .set .axisSwap rfl
  | .setScroll _ => .set .scroll rfl
  | .setTap _ => .set .tap rfl
  | .setGlide _ => .set .glide rfl
  | .setImouse _ => .set .imouse rfl

/-! ### Decode of encode -/

theorem decodeWith_encode_instrsN (ft : FieldTable) {i : Instr} (h : i ∈ instrsN) : decodeWith ft (encode i) = .ok i := by
  simp only [instrsN, List.mem_cons, List.not_mem_nil, or_false] at h
  rcases h with rfl | rfl | rfl | rfl | rfl | rfl | rfl | rfl | rfl <;> rfl

theorem decodeWith_encode {ft : FieldTable} {i : Instr} (hwf : i.wf ft = true) : decodeWith ft (encode i) = .ok i := by
  cases i.hasFormat with
  | bare h => exact decodeWith_encode_instrsN ft h
  | rd r => exact decodeWith_rd ft r
  | wr r b => exact decodeWith_wr ft r b
  | get f =>
    rw [encode_getterOf]
    exact decodeWith_get ft f
  | set f h =>
    rw [encode_setterOf h]
    refine decodeWith_set h ?_
    rw [wf_of_setterOf h] at hwf
    simpa [FieldTable.declares] using hwf

/-- A byte-wide port that is sent the three byte fields of a word decodes that word (R60). -/
theorem decodeBytes_bytes (ft : FieldTable) (w : CmdWord) :
    decodeBytes ft [opByte w, aByte w, bByte w] = decodeWith ft w := by
  rw [decodeBytes, wordOf_bytes]

/-! ### Encode of decode -/

theorem eq_of_decodeN {i j : Instr} {a b : Byte} (h : decodeN i a b = .ok j) : a = 0 ∧ b = 0 ∧ i = j := by
  unfold decodeN at h
  split at h
  next hab => exact ⟨hab.1, hab.2, Except.ok.inj h⟩
  next => cases h

theorem exists_of_decodeReg {k : ChipReg → Instr} {a : Byte} {i : Instr} (h : decodeReg a k = .ok i) :
    ∃ r : ChipReg, r.addr = a ∧ k r = i := by
  unfold decodeReg at h
  cases hr : regOfAddr a with
  | some r =>
    rw [hr] at h
    exact ⟨r, addr_of_regOfAddr hr, Except.ok.inj h⟩
  | none =>
    rw [hr] at h
    cases h

theorem exists_of_decodeGet {a : Byte} {i : Instr} (h : decodeGet a = .ok i) : ∃ f : Field, f.id = a ∧ getterOf f = i := by
  by_cases ha : 10 < a.toNat
  · rw [decodeGet_reserved ha] at h
    cases h
  · obtain ⟨f, rfl⟩ := exists_id_eq (by omega : a.toNat ≤ 10)
    rw [decodeGet_id] at h
    exact ⟨f, rfl, Except.ok.inj h⟩

theorem exists_of_decodeSet {ft : FieldTable} {a c : Byte} {i : Instr} (h : decodeSet ft a c = .ok i) :
    ∃ f : Field, f.id = a ∧ setterOf f c = some i ∧ ft.declares f c = true := by
  by_cases ha : a = 1 ∨ a = 2 ∨ 10 < a.toNat
  · rw [decodeSet_reserved ha] at h
    cases h
  · obtain ⟨f, rfl⟩ := exists_id_eq (by omega : a.toNat ≤ 10)
    cases hset : setterOf f c with
    | none => exact absurd (setterOf_eq_none_iff.mp hset) (by tauto)
    | some j =>
      rw [decodeSet_id hset, decodeCode] at h
      split at h
      next hdecl =>
        obtain rfl := Except.ok.inj h
        exact ⟨f, rfl, hset, hdecl⟩
      next => cases h

/-- An operand byte that has to be zero was zero (R69). -/
theorem of_unused_ok {b : Byte} {r : Except DecodeError Instr} {i : Instr}
    (h : (if b = 0 then r else .error .strayOperand) = .ok i) : b = 0 ∧ r = .ok i := by
  split at h
  next hb => exact ⟨hb, h⟩
  next => cases h

/-- Each opcode of format N is that of one instruction, which its word with two zero operand bytes encodes. -/
theorem decodeFields_opsN_encode {ft : FieldTable} {op : Byte} (a b : Byte) (h : op ∈ opsN) :
    ∃ i, i.wf ft = true ∧ encode i = wordOf op 0 0 ∧ decodeFields ft op a b = decodeN i a b := by
  simp only [opsN, List.mem_cons, List.not_mem_nil, or_false] at h
  rcases h with rfl | rfl | rfl | rfl | rfl | rfl | rfl | rfl | rfl <;> exact ⟨_, rfl, rfl, rfl⟩

theorem encode_of_decodeFields {ft : FieldTable} {op a b : Byte} {i : Instr} (h : decodeFields ft op a b = .ok i) :
    encode i = wordOf op a b ∧ i.wf ft = true := by
  rcases opcode_cases op with hres | hN | rfl | rfl | rfl | rfl
  case inl => simp [decodeFields_reserved a b hres] at h
  case inr.inl =>
    obtain ⟨j, hwf, henc, hdec⟩ := decodeFields_opsN_encode (ft := ft) a b hN
    obtain ⟨rfl, rfl, rfl⟩ := eq_of_decodeN (hdec ▸ h)
    exact ⟨henc, hwf⟩
  case inr.inr.inl =>
    obtain ⟨rfl, h⟩ := of_unused_ok h
    obtain ⟨r, rfl, rfl⟩ := exists_of_decodeReg h
    exact ⟨rfl, rfl⟩
  case inr.inr.inr.inl =>
    obtain ⟨r, rfl, rfl⟩ := exists_of_decodeReg h
    exact ⟨rfl, rfl⟩
  case inr.inr.inr.inr.inl =>
    obtain ⟨rfl, h⟩ := of_unused_ok h
    obtain ⟨f, rfl, rfl⟩ := exists_of_decodeGet h
    exact ⟨encode_getterOf f, getterOf_wf ft f⟩
  case inr.inr.inr.inr.inr =>
    obtain ⟨f, rfl, hset, hdecl⟩ := exists_of_decodeSet h
    exact ⟨encode_setterOf hset, (wf_of_setterOf hset).trans hdecl⟩

theorem encode_of_decodeWith {ft : FieldTable} {w : CmdWord} {i : Instr} (h : decodeWith ft w = .ok i) :
    encode i = w ∧ i.wf ft = true := by
  have hbytes := encode_of_decodeFields h
  rwa [wordOf_bytes] at hbytes

/-! ### The rows of the opcode table -/

/-- The word of every instruction passes its row: the family of `Laws.OpcodeRow`, as one statement. -/
theorem encode_passes_row (i : Instr) : encode i &&& (opcodeRow i).2 = (opcodeRow i).1 := by
  cases i.hasFormat with
  | bare h =>
    simp only [instrsN, List.mem_cons, List.not_mem_nil, or_false] at h
    rcases h with rfl | rfl | rfl | rfl | rfl | rfl | rfl | rfl | rfl <;> rfl
  | rd r => exact Laws.OpcodeRow.rd r
  | wr r b => exact Laws.OpcodeRow.wr r b
  | get f => cases f <;> rfl
  | set f h =>
    rw [encode_setterOf h]
    cases f <;> cases h <;> exact Laws.OpcodeRow.wordOf_mask_set _ _ _

/-- One instruction of each row of the opcode table. -/
def oneOfEachRow : List Instr :=
  instrsN ++ [.rd .firmwareId, .wr .firmwareId 0] ++ allFields.map getterOf ++ allFields.filterMap (setterOf · 0)

theorem exists_setterOf_zero {f : Field} {c : Byte} {i : Instr} (h : setterOf f c = some i) :
    ∃ j, setterOf f 0 = some j ∧ opcodeRow j = opcodeRow i ∧ mnemonic j = mnemonic i := by
  cases f <;> cases h <;> exact ⟨_, rfl, rfl, rfl⟩

/-- An instruction's operand is no part of its row. -/
theorem exists_mem_oneOfEachRow (i : Instr) :
    ∃ j ∈ oneOfEachRow, opcodeRow j = opcodeRow i ∧ mnemonic j = mnemonic i := by
  cases i.hasFormat with
  | bare h => exact ⟨i, by simp [oneOfEachRow, h], rfl, rfl⟩
  | rd r => exact ⟨.rd .firmwareId, by decide, rfl, rfl⟩
  | wr r b => exact ⟨.wr .firmwareId 0, by decide, rfl, rfl⟩
  | get f => exact ⟨getterOf f, by simp [oneOfEachRow], rfl, rfl⟩
  | set f h =>
    obtain ⟨j, hj, hrow, hmn⟩ := exists_setterOf_zero h
    exact ⟨j, List.mem_append_right _ (List.mem_filterMap.mpr ⟨f, mem_allFields f, hj⟩), hrow, hmn⟩

/-- Two rows that agree on the bits both masks keep are one row. -/
theorem rows_disagree : ∀ i ∈ oneOfEachRow, ∀ j ∈ oneOfEachRow,
    (opcodeRow i).1 &&& (opcodeRow j).2 = (opcodeRow j).1 &&& (opcodeRow i).2 → i = j := by
  decide

/-- Two rows that one word passes agree on the bits both masks keep: there each of them is the word. -/
theorem rows_agree_of_pass {w : CmdWord} {i j : Instr} (hi : w &&& (opcodeRow i).2 = (opcodeRow i).1)
    (hj : w &&& (opcodeRow j).2 = (opcodeRow j).1) :
    (opcodeRow i).1 &&& (opcodeRow j).2 = (opcodeRow j).1 &&& (opcodeRow i).2 := by
  rw [← hi, ← hj, BitVec.and_assoc, BitVec.and_assoc, BitVec.and_comm (opcodeRow i).2]

end Sys2Proof

namespace Sys2Proof.Proofs
open Sys2Proof.Machine

/-- Settles O1: format by format, the decoder reads back the opcode and the operand that the encoder wrote; a byte-wide port
joins the three bytes to the same word. -/
theorem decodeOfEncodeIsTheInstruction : Obligations.DecodeOfEncodeIsTheInstruction := by
  intro ft i hwf
  have hword := decodeWith_encode hwf
  exact ⟨hword, (decodeBytes_bytes ft (encode i)).trans hword⟩

/-- Settles O2: what each operand decoder accepts it accepts of one operand only. -/
theorem legalWordIsTheEncodingOfItsInstruction : Obligations.LegalWordIsTheEncodingOfItsInstruction := by
  intro ft w i hdec
  obtain ⟨rfl, hwf⟩ := encode_of_decodeWith hdec
  exact ⟨rfl, hwf, encode_passes_row i⟩

/-- Settles O3: a word that passes two rows makes them agree where both look, and no two rows of the table do. -/
theorem noWordPassesTwoOpcodeRows : Obligations.NoWordPassesTwoOpcodeRows := by
  intro w i j hi hj
  obtain ⟨i', hi', hirow, himn⟩ := exists_mem_oneOfEachRow i
  obtain ⟨j', hj', hjrow, hjmn⟩ := exists_mem_oneOfEachRow j
  have hsame : i' = j' := rows_disagree i' hi' j' hj' (rows_agree_of_pass (hirow ▸ hi) (hjrow ▸ hj))
  rw [← himn, ← hjmn, hsame]

/-- Settles O4: the eight words, written out in binary, run through the decoder. -/
theorem writtenOutWordsDecode : Obligations.WrittenOutWordsDecode := by
  refine ⟨?_, ?_, ?_, ?_, ?_, ?_, ?_, ?_⟩ <;> rfl

end Sys2Proof.Proofs

/-! What a step keeps: a step taken apart into the five things it can do, and one predicate on scripts, `Script.Proper`, that
says of every command what the invariants of the sequencer, the responses and the traffic need. -/

namespace Sys2Proof.Machine
open Sys2Proof.Claims

/-! ### The five things a step can do -/

/-- A property that every kind of step keeps: that of taking the inputs, of a reset, of an answer without a run, of a command
that starts and of one that goes on. -/
structure StepKeeps (P : State → Prop) : Prop where
  inputs : ∀ s h r, P s → P ((s.withResetIn r).withHostIn h)
  reset : ∀ s, P s → P (blockReset s)
  refused : ∀ s, s.busy = false → P s → ∀ st ∈ [Status.wrongMode, .illegalCommand], P (s.finish st 0)
  starts : ∀ s i, s.busy = false → (gateOf i).holds s = true → P s →
    P (run (isTransition i) (scriptOf s.cfg i) [] (s.accept i))
  goesOn : ∀ s f, s.busy = true → s.inFlight = some f → P s →
    P (run (isTransition f.cmd) (scriptOf s.cfg f.cmd) f.got s)

section
variable {P : State → Prop} {s t : State}

theorem StepKeeps.runCommand (h : StepKeeps P) (i : Instr) (hs : P s) : P (runCommand i (scriptOf s.cfg i) s) := by
  obtain ⟨-, hrun⟩ | ⟨hidle, -, hrun⟩ | ⟨hidle, hgate, hrun⟩ | ⟨f, hbusy, hf, rfl, hrun⟩ :=
    runCommand_cases i (scriptOf s.cfg i) s <;> rw [hrun]
  · exact hs
  · exact h.refused s hidle hs .wrongMode (by decide)
  · exact h.starts s i hidle hgate hs
  · exact h.goesOn s f hbusy hf hs

theorem StepKeeps.step (h : StepKeeps P) (hs : P s) (hstep : step s = .next t) : P t := by
  have hin (u : List HostEvent) : P ((s.withResetIn s.resetIn.tail).withHostIn u) := h.inputs s u _ hs
  obtain ⟨-, hport⟩ | ⟨-, hport⟩ := portAction_cases s
  · rw [Machine.step, hport] at hstep
    obtain rfl := Host.Outcome.next.inj hstep
    exact h.reset _ (hin s.hostIn)
  · obtain ⟨w, rest, -, hidle, ⟨i, -, hc⟩ | ⟨e, -, hc⟩⟩ | ⟨u, -, hc⟩ | ⟨u, f, -, -, hc⟩ | ⟨u, -, -, hc⟩ :=
      commandPort_cases (s.withResetIn s.resetIn.tail) <;> rw [Machine.step, hport, hc] at hstep
    · rw [← Host.Outcome.next.inj ((exec_eq i _).symm.trans hstep)]
      exact h.runCommand i (hin rest)
    · obtain rfl := Host.Outcome.next.inj hstep
      exact h.refused ((s.withResetIn s.resetIn.tail).withHostIn rest) hidle (hin rest) .illegalCommand (by decide)
    · obtain rfl := Host.Outcome.next.inj hstep
      exact hin u
    · rw [← Host.Outcome.next.inj ((exec_eq f.cmd _).symm.trans hstep)]
      exact h.runCommand f.cmd (hin u)
    · obtain rfl := Host.Outcome.next.inj hstep
      exact hin u

end

/-! ### Assignments in a row -/

/-- The assignments `as`, one after the other. -/
def State.assignAll (s : State) (as : List Assign) : State := as.foldl State.assign s

/-- The script that makes the assignments `as` and goes on with `k`. -/
def Script.assigning (as : List Assign) (k : Script) : Script := as.foldr .assign k

theorem run_assigning (tr : Bool) (as : List Assign) (k : Script) (past : List Got) (s : State) :
    run tr (Script.assigning as k) past s = run tr k past (s.assignAll as) := by
  induction as generalizing s with
  | nil => rfl
  | cons a as ih => exact ih (s.assign a)

/-- A property that one assignment keeps is kept by a row of them. -/
theorem assignAll_keeps {P : State → Prop} (hassign : ∀ s a, P s → P (s.assign a)) (as : List Assign) {s : State}
    (hs : P s) : P (s.assignAll as) := by
  induction as generalizing s with
  | nil => exact hs
  | cons a as ih => exact ih (hassign s a hs)

theorem assignAll_responses (s : State) (as : List Assign) : (s.assignAll as).responses = s.responses :=
  assignAll_keeps (P := fun t => t.responses = s.responses) (by simp) as rfl

theorem State.ShowsAs.assign {u s : State} (h : u.ShowsAs s) (a : Assign) : (u.assign a).ShowsAs (s.assign a) := by
  cases a <;> exact ⟨by simp [h.tagPos], by simp [h.tagFeed], by simp [h.synced], by simp [h.responses]⟩

theorem State.ShowsAs.assignAll {u s : State} (h : u.ShowsAs s) (as : List Assign) :
    (u.assignAll as).ShowsAs (s.assignAll as) := by
  induction as generalizing u s with
  | nil => exact h
  | cons a as ih => exact ih (h.assign a)

/-! ### Legal responses (R66 to R68) -/

theorem statusCodeOf_respWord (st : Status) (p : Payload) : statusCodeOf (respWord st p) = st.code :=
  BitVec.extractLsb'_append_eq_left

theorem payloadOf_respWord (st : Status) (p : Payload) : payloadOf (respWord st p) = p :=
  BitVec.extractLsb'_append_eq_right

theorem legalResponse_ok (p : Payload) : legalResponse (respWord .ok p) = true := by
  have hcode : statusCodeOf (respWord .ok p) = 0 := statusCodeOf_respWord .ok p
  simp only [legalResponse, hcode]
  rfl

/-- The one error with a payload carries a byte (R68). -/
theorem legalResponse_invalidDiscriminant (b : Byte) :
    legalResponse (respWord .invalidDiscriminant (bytePayload b)) = true := by
  simp [legalResponse, statusCodeOf_respWord, payloadOf_respWord, Status.code, bytePayload]
  omega

/-! ### What every script does -/

/-- On every path, the script makes lawful transactions only, samples only a line that exists, answers legally, and assigns
nothing but `as`, right before it answers `OK`. -/
def Script.Proper (cfg : Params) (as : List Assign) : Script → Prop
  | .respond st p => legalResponse (respWord st p) = true
  | .raise e p => legalResponse (respWord e p) = true
  | .xfer t k => lawfulTxn cfg t = true ∧ ∀ b, (k b).Proper cfg as
  | .sample k => cfg.hasReadyPin = true ∧ ∀ l, (k l).Proper cfg as
  | .latch _ k => ∀ v, (k v).Proper cfg as
  | .assign a k => ∃ p, .assign a k = Script.assigning as (.respond .ok p)

section
variable {cfg : Params} {as : List Assign} {k : Script}

theorem assigning_proper (p : Payload) : (Script.assigning as (.respond .ok p)).Proper cfg as := by
  cases as with
  | nil => exact legalResponse_ok p
  | cons a as => exact ⟨p, rfl⟩

theorem memRead_proper (r : ChipReg) {k : Byte → Script} (h : ∀ b, (k b).Proper cfg as) :
    (memRead cfg r k).Proper cfg as :=
  ⟨lawful_readTxn cfg r, h⟩

theorem memWrite_proper (r : ChipReg) (v : Byte) (h : k.Proper cfg as) : (memWrite cfg r v k).Proper cfg as := by
  unfold memWrite
  split
  next => exact (by decide : legalResponse (respWord .writeToReadOnly 0) = true)
  next hw => exact ⟨lawful_writeTxn v (by simpa using hw), fun _ => h⟩

theorem update_proper (f : Field) (c : Byte) (h : k.Proper cfg as) : (update cfg f c k).Proper cfg as := by
  unfold update
  split
  · exact (by decide : legalResponse (respWord .writeToReadOnly 0) = true)
  · exact memRead_proper _ fun _ _ => memWrite_proper _ _ h

theorem statusReady_proper (h : k.Proper cfg as) : (statusReady cfg k).Proper cfg as := by
  refine memRead_proper _ fun st => ?_
  split
  · exact (by decide : legalResponse (respWord .noData 0) = true)
  · exact h

theorem dataReady_proper (h : k.Proper cfg as) : (dataReady cfg k).Proper cfg as := by
  unfold dataReady
  split
  next hpin =>
    refine ⟨hpin, fun l => ?_⟩
    cases l with
    | fault => exact (by decide : legalResponse (respWord .pinError 0) = true)
    | low => exact (by decide : legalResponse (respWord .noData 0) = true)
    | high => exact statusReady_proper h
  next => exact statusReady_proper h

theorem getScript_proper (f : Field) : (getScript cfg f).Proper cfg [] := by
  refine memRead_proper _ fun p => ?_
  split
  · exact legalResponse_ok _
  · exact legalResponse_invalidDiscriminant _

end

/-- What a command assigns at its successful end (R141 to R145). -/
def endAssigns : Instr → List Assign
  | .init => [.pos .relative, .feed .noFeed, .synced true]
  | .enable => [.feed .enabled]
  | .disable => [.feed .noFeed]
  | .toabs => [.pos .absolute]
  | .torel => [.pos .relative]
  | _ => []

/-- Every script is proper, but that WR to FEED_CONFIG1 makes its assignment first (R83). -/
theorem scriptOf_proper (cfg : Params) (i : Instr) : (scriptOf cfg i).Proper cfg (endAssigns i) ∨
    ∃ v k, i = .wr .feedConfig1 v ∧ scriptOf cfg i = .assign (.synced false) k ∧ k.Proper cfg [] := by
  cases i.hasFormat with
  | get f =>
    left
    rw [scriptOf_getterOf]
    cases f <;> exact getScript_proper _
  | set f h =>
    left
    rw [scriptOf_setterOf cfg h]
    cases f <;> cases h <;> exact update_proper _ _ (legalResponse_ok 0)
  | rd r => exact .inl (memRead_proper r fun _ => legalResponse_ok _)
  | wr r b =>
    have hwrite : (memWrite cfg r b (.respond .ok 0)).Proper cfg [] := memWrite_proper r b (legalResponse_ok 0)
    by_cases hro : isReadOnly cfg r = true
    · left
      simp only [scriptOf, wrScript, hro, if_true]
      exact (by decide : legalResponse (respWord .writeToReadOnly 0) = true)
    · by_cases hr : r = .feedConfig1
      · subst hr
        exact .inr ⟨b, _, rfl, by simp [scriptOf, wrScript, hro], hwrite⟩
      · left
        simpa [scriptOf, wrScript, hro, hr, endAssigns] using hwrite
  | bare h =>
    left
    simp only [instrsN, List.mem_cons, List.not_mem_nil, or_false] at h
    obtain rfl | rfl | rfl | rfl | rfl | rfl | rfl | rfl | rfl := h
    · exact update_proper _ _ <| update_proper _ _ <| assigning_proper (as := endAssigns .init) 0
    · exact memWrite_proper _ _ <| legalResponse_ok 0
    · exact update_proper _ _ <| memWrite_proper _ _ <| assigning_proper (as := endAssigns .enable) 0
    · exact update_proper _ _ <| assigning_proper (as := endAssigns .disable) 0
    · exact update_proper _ _ <| assigning_proper (as := endAssigns .toabs) 0
    · exact update_proper _ _ <| assigning_proper (as := endAssigns .torel) 0
    · exact dataReady_proper <| memRead_proper _ fun _ => memRead_proper _ fun _ => memRead_proper _ fun _ =>
        memWrite_proper _ _ <| legalResponse_ok _
    · exact dataReady_proper <| memRead_proper _ fun _ => memRead_proper _ fun _ => memRead_proper _ fun _ =>
        memRead_proper _ fun _ => memRead_proper _ fun _ => memWrite_proper _ _ <| legalResponse_ok _
    · exact memRead_proper _ fun _ => legalResponse_ok _

/-! ### What a run of a proper script does to the tag and `synced` -/

/-- How a run from `s` of a script that assigns only `as` leaves the tag and `synced` in `t`: as they were, without a
response; as they were, but for a transition's `synced`, with a response; or as `as` makes them. -/
inductive State.LeavesTag (as : List Assign) (tr : Bool) (s t : State) : Prop
  | unanswered (shows : t.ShowsAs s)
  | answered (w : RespWord) (responses : t.responses = s.responses ++ [w]) (tagPos : t.tagPos = s.tagPos)
      (tagFeed : t.tagFeed = s.tagFeed) (synced : t.synced = s.synced ∨ (tr = true ∧ t.synced = false))
  | assigned (w : RespWord) (responses : t.responses = s.responses ++ [w])
      (tagPos : t.tagPos = (s.assignAll as).tagPos) (tagFeed : t.tagFeed = (s.assignAll as).tagFeed)
      (synced : t.synced = (s.assignAll as).synced)

section
variable {cfg : Params} {as : List Assign} {tr : Bool} {s t u : State}

theorem State.LeavesTag.of_showsAs (hu : u.ShowsAs s) (h : State.LeavesTag as tr u t) : State.LeavesTag as tr s t := by
  cases h with
  | unanswered shows =>
    exact .unanswered ⟨shows.tagPos.trans hu.tagPos, shows.tagFeed.trans hu.tagFeed, shows.synced.trans hu.synced,
      shows.responses.trans hu.responses⟩
  | answered w responses tagPos tagFeed synced =>
    exact .answered w (hu.responses ▸ responses) (tagPos.trans hu.tagPos) (tagFeed.trans hu.tagFeed) (hu.synced ▸ synced)
  | assigned w responses tagPos tagFeed synced =>
    have hall := hu.assignAll as
    exact .assigned w (hu.responses ▸ responses) (tagPos.trans hall.tagPos) (tagFeed.trans hall.tagFeed)
      (synced.trans hall.synced)

theorem raiseError_leavesTag (e : Status) (info : Payload) : State.LeavesTag as tr s (s.raiseError tr e info) := by
  refine .answered (respWord e info) (by simp) (by simp) (by simp) ?_
  rw [raiseError_synced]
  cases tr <;> cases desyncs e <;> simp

theorem run_leavesTag {sc : Script} (h : sc.Proper cfg as) (past : List Got) :
    State.LeavesTag as tr s (run tr sc past s) := by
  induction sc generalizing past s with
  | respond st p => exact .answered (respWord st p) rfl rfl rfl (.inl rfl)
  | raise e info => exact raiseError_leavesTag e info
  | latch v k ih => exact .of_showsAs (u := s.setTmp v) ⟨rfl, rfl, rfl, rfl⟩ (ih v (h v) past)
  | assign a k _ =>
    obtain ⟨p, hp⟩ := h
    rw [hp, run_assigning, run_respond]
    exact .assigned (respWord .ok p) (by simp [assignAll_responses]) rfl rfl rfl
  | sample k ih =>
    obtain ⟨l, past', u, hu, hrun⟩ | hrest := run_sample_cases tr k past s
    · rw [hrun]
      exact (ih l (h.2 l) past').of_showsAs hu
    · exact .unanswered hrest
  | xfer x k ih =>
    obtain ⟨b, past', u, hu, hrun⟩ | ⟨u, hu, hrun⟩ | hrest := run_xfer_cases tr x k past s
    · rw [hrun]
      exact (ih b (h.2 b) past').of_showsAs hu
    · rw [hrun]
      exact (raiseError_leavesTag _ _).of_showsAs hu
    · exact .unanswered hrest

/-! ### Responses and traffic of a run -/

theorem State.ShowsAs.responsesLegal (h : u.ShowsAs s) : u.responsesLegal = s.responsesLegal := by
  rw [State.responsesLegal, State.responsesLegal, h.responses]

theorem responsesLegal_answer {st : Status} {p : Payload} (hs : s.responsesLegal = true)
    (hw : legalResponse (respWord st p) = true) (ht : t.responses = s.responses ++ [respWord st p]) :
    t.responsesLegal = true := by
  simpa [State.responsesLegal, ht, hw] using hs

theorem run_responsesLegal {sc : Script} (h : sc.Proper cfg as) (past : List Got) (hs : s.responsesLegal = true) :
    (run tr sc past s).responsesLegal = true := by
  induction sc generalizing past s with
  | respond st p => exact responsesLegal_answer hs h rfl
  | raise e info => exact responsesLegal_answer hs h (raiseError_responses s tr e info)
  | latch v k ih => exact ih v (h v) past (s := s.setTmp v) hs
  | assign a k _ =>
    obtain ⟨p, hp⟩ := h
    rw [hp, run_assigning]
    exact responsesLegal_answer hs (legalResponse_ok p) (by simp [assignAll_responses])
  | sample k ih =>
    obtain ⟨l, past', u, hu, hrun⟩ | hrest := run_sample_cases tr k past s
    · rw [hrun]
      exact ih l (h.2 l) past' (hu.responsesLegal.trans hs)
    · exact hrest.responsesLegal.trans hs
  | xfer x k ih =>
    obtain ⟨b, past', u, hu, hrun⟩ | ⟨u, hu, hrun⟩ | hrest := run_xfer_cases tr x k past s
    · rw [hrun]
      exact ih b (h.2 b) past' (hu.responsesLegal.trans hs)
    · rw [hrun]
      exact responsesLegal_answer (hu.responsesLegal.trans hs) (by decide) (raiseError_responses u tr .busError 0)
    · exact hrest.responsesLegal.trans hs

/-- What lawful traffic is, of the record and of the transaction under way. -/
theorem trafficLawful_iff : s.trafficLawful = true ↔ (∀ e ∈ s.traffic, lawfulEvent s.cfg e = true) ∧
    ∀ f, s.inFlight = some f → ∀ x, f.waiting = some x → lawfulTxn s.cfg x = true := by
  cases hf : s.inFlight <;> simp [State.trafficLawful, hf, Option.all_eq_true]

/-- With nothing under way, lawful traffic is the record's. -/
theorem trafficLawful_of_traffic (ht : ∀ e ∈ t.traffic, lawfulEvent t.cfg e = true)
    (hf : ∀ f, t.inFlight = some f → f.waiting = none) : t.trafficLawful = true := by
  refine trafficLawful_iff.mpr ⟨ht, fun f h x hx => ?_⟩
  simp [hf f h] at hx

theorem trafficLawful_congr (htraffic : t.traffic = s.traffic) (hinFlight : t.inFlight = s.inFlight) (hcfg : t.cfg = s.cfg)
    : t.trafficLawful = s.trafficLawful := by
  rw [State.trafficLawful, State.trafficLawful, htraffic, hinFlight, hcfg]

/-- An event that a running command is given. -/
theorem trafficLawful_event {e : BusEvent} (g : Got) (hs : s.trafficLawful = true) (he : lawfulEvent s.cfg e = true) :
    ((s.record e).remember g).trafficLawful = true := by
  refine trafficLawful_of_traffic ?_ ?_
  · simpa [or_imp, forall_and, he] using (trafficLawful_iff.mp hs).1
  · simp only [remember_inFlight, Option.map_eq_some_iff]
    rintro f ⟨f', -, rfl⟩
    rfl

theorem trafficLawful_waitFor {x : Txn} (hs : s.trafficLawful = true) (hx : lawfulTxn s.cfg x = true) :
    (s.waitFor x).trafficLawful = true := by
  refine trafficLawful_iff.mpr ⟨(trafficLawful_iff.mp hs).1, ?_⟩
  simp only [waitFor_inFlight, waitFor_cfg, Option.map_eq_some_iff]
  rintro f ⟨f', -, rfl⟩ y hy
  obtain rfl : x = y := Option.some.inj hy
  exact hx

/-- An ending with the traffic `es` after that of `s`. -/
theorem trafficLawful_ended {es : List BusEvent} (hs : s.trafficLawful = true) (hcfg : t.cfg = s.cfg)
    (htraffic : t.traffic = s.traffic ++ es) (hes : ∀ e ∈ es, lawfulEvent s.cfg e = true) (hnone : t.inFlight = none) :
    t.trafficLawful = true := by
  refine trafficLawful_of_traffic ?_ (by simp [hnone])
  simpa [htraffic, hcfg, or_imp, forall_and] using ⟨(trafficLawful_iff.mp hs).1, hes⟩

theorem run_trafficLawful {sc : Script} (hcfg : s.cfg = cfg) (h : sc.Proper cfg as) (past : List Got)
    (hs : s.trafficLawful = true) : (run tr sc past s).trafficLawful = true := by
  induction sc generalizing past s with
  | respond st p => exact trafficLawful_ended (es := []) hs rfl (by simp) nofun rfl
  | raise e info => exact trafficLawful_ended (es := []) hs (by simp) (by simp) nofun (by simp)
  | latch v k ih => exact ih v (s := s.setTmp v) hcfg (h v) past hs
  | assign a k _ =>
    obtain ⟨p, hp⟩ := h
    have hassigned : (s.assignAll as).trafficLawful = true :=
      assignAll_keeps (P := fun t => t.trafficLawful = true)
        (fun t a ht => (trafficLawful_congr (by simp) (by simp) (by simp)).trans ht) as hs
    rw [hp, run_assigning]
    exact trafficLawful_ended (es := []) hassigned rfl (by simp) nofun rfl
  | sample k ih =>
    match past with
    | .level l :: past => exact ih l hcfg (h.2 l) past hs
    | .byte b :: past => exact hs
    | [] =>
      have hdrawn : s.drawPin.2.trafficLawful = true :=
        (trafficLawful_congr (by simp) (by simp) (by simp)).trans hs
      rw [run_sample]
      exact ih _ (by simpa using hcfg) (h.2 _) [] (trafficLawful_event _ hdrawn (by simpa [hcfg, lawfulEvent] using h.1))
  | xfer x k ih =>
    have hdrawn : s.drawBus.2.trafficLawful = true := (trafficLawful_congr (by simp) (by simp) (by simp)).trans hs
    have hx : lawfulTxn s.drawBus.2.cfg x = true := by simpa [hcfg] using h.1
    match past with
    | .byte b :: past => exact ih b hcfg (h.2 b) past hs
    | .level l :: past => exact hs
    | [] =>
      match ha : s.drawBus.1 with
      | .ok b =>
        rw [run_xfer_ok tr x k ha]
        exact ih b (by simpa using hcfg) (h.2 b) [] (trafficLawful_event _ hdrawn hx)
      | .err =>
        rw [run_xfer_err tr x k ha]
        exact trafficLawful_ended (es := [.txn x .err]) hdrawn (by simp) (by simp) (by simpa [lawfulEvent] using hx) (by simp)
      | .stall =>
        rw [run_xfer_stall tr x k ha]
        exact trafficLawful_waitFor hdrawn hx
      | .later =>
        rw [run_xfer_later tr x k ha]
        exact hdrawn

end

/-! ### The invariants, step by step -/

/-- A script that assigns first is the script after that assignment, in the state it makes. -/
theorem run_of_eq_assign {sc k : Script} {a : Assign} (h : sc = .assign a k) (tr : Bool) (past : List Got) (s : State) :
    run tr sc past s = run tr k past (s.assign a) := by
  rw [h, run_assign]

/-- Only WR to FEED_CONFIG1 changes the tag or `synced` before its response. -/
theorem run_command_leavesTag (i : Instr) (past : List Got) (s : State) :
    State.LeavesTag (endAssigns i) (isTransition i) s (run (isTransition i) (scriptOf s.cfg i) past s) ∨
    ∃ v, i = .wr .feedConfig1 v ∧
      State.LeavesTag [] false (s.assign (.synced false)) (run (isTransition i) (scriptOf s.cfg i) past s) := by
  obtain h | ⟨v, k, rfl, heq, h⟩ := scriptOf_proper s.cfg i
  · exact .inl (run_leavesTag h past)
  · refine .inr ⟨v, rfl, ?_⟩
    rw [run_of_eq_assign heq]
    exact run_leavesTag h past

theorem run_command_responsesLegal (i : Instr) (past : List Got) {s : State} (hs : s.responsesLegal = true) :
    (run (isTransition i) (scriptOf s.cfg i) past s).responsesLegal = true := by
  obtain h | ⟨v, k, -, heq, h⟩ := scriptOf_proper s.cfg i
  · exact run_responsesLegal h past hs
  · rw [run_of_eq_assign heq]
    exact run_responsesLegal h past (s := s.assign (.synced false)) hs

theorem run_command_trafficLawful (i : Instr) (past : List Got) {s : State} (hs : s.trafficLawful = true) :
    (run (isTransition i) (scriptOf s.cfg i) past s).trafficLawful = true := by
  obtain h | ⟨v, k, -, heq, h⟩ := scriptOf_proper s.cfg i
  · exact run_trafficLawful rfl h past hs
  · rw [run_of_eq_assign heq]
    exact run_trafficLawful (s := s.assign (.synced false)) rfl h past hs

/-- The sequencer is sound where a busy block has a command in flight whose gate is open, and an idle one has none. -/
theorem sound_iff {s : State} : s.sound = true ↔
    (s.busy = false ∧ s.inFlight = none) ∨ ∃ f, s.busy = true ∧ s.inFlight = some f ∧ (gateOf f.cmd).holds s = true := by
  cases hf : s.inFlight <;> cases hb : s.busy <;> simp [State.sound, hf, hb]

theorem holds_congr (g : Gate) {s t : State} (hpos : t.tagPos = s.tagPos) (hfeed : t.tagFeed = s.tagFeed)
    (hsynced : t.synced = s.synced) : g.holds t = g.holds s := by
  cases g <;> simp [Gate.holds, hpos, hfeed, hsynced]

/-- A gated command that is still in flight after a run has answered nothing and assigned nothing. -/
theorem run_command_sound {s : State} {f : InFlight} (past : List Got) (hbusy : s.busy = true) (hf : s.inFlight = some f)
    (hgate : (gateOf f.cmd).holds s = true) :
    (run (isTransition f.cmd) (scriptOf s.cfg f.cmd) past s).sound = true := by
  refine sound_iff.mpr ?_
  obtain ⟨hbusy', hresp, hcmd⟩ | ⟨hidle, hnone, -⟩ :=
    run_ends (isTransition f.cmd) (scriptOf s.cfg f.cmd) past s hbusy
  case inr => exact .inl ⟨hidle, hnone⟩
  rw [hf, Option.map_some, Option.map_eq_some_iff] at hcmd
  obtain ⟨f', hf', hcmd⟩ := hcmd
  refine .inr ⟨f', hbusy', hf', ?_⟩
  obtain hleaves | ⟨v, hwr, -⟩ := run_command_leavesTag f.cmd past s
  · cases hleaves with
    | unanswered shows => rwa [hcmd, holds_congr _ shows.tagPos shows.tagFeed shows.synced]
    | answered w responses => simp [hresp] at responses
    | assigned w responses => simp [hresp] at responses
  · rw [hcmd, hwr]
    rfl

theorem sound_keeps : StepKeeps fun s => s.sound = true where
  inputs _ _ _ hs := hs
  reset s _ := sound_iff.mpr (.inl ⟨rfl, rfl⟩)
  refused s _ _ st _ := sound_iff.mpr (.inl ⟨rfl, rfl⟩)
  starts s i _ hgate _ := run_command_sound (s := s.accept i) (f := ⟨i, [], none⟩) [] rfl rfl hgate
  goesOn s f hbusy hf hs := by
    obtain ⟨hidle, -⟩ | ⟨f', -, hf', hgate⟩ := sound_iff.mp hs
    · simp [hbusy] at hidle
    · obtain rfl : f = f' := Option.some.inj (hf.symm.trans hf')
      exact run_command_sound f.got hbusy hf hgate

theorem responsesLegal_keeps : StepKeeps fun s => s.responsesLegal = true where
  inputs _ _ _ hs := hs
  reset _ hs := hs
  refused s _ hs st hst := by
    refine responsesLegal_answer (st := st) (p := 0) hs ?_ rfl
    revert st
    decide
  starts s i _ _ hs := run_command_responsesLegal i [] (s := s.accept i) hs
  goesOn s f _ _ hs := run_command_responsesLegal f.cmd f.got hs

/-- A transaction that was under way was lawful, and so is the record of it. -/
theorem lawful_abandonedTraffic {s : State} (hs : s.trafficLawful = true) :
    ∀ e ∈ abandonedTraffic s, lawfulEvent s.cfg e = true := by
  intro e he
  unfold abandonedTraffic at he
  split at he
  next f hf =>
    split at he
    next x hx =>
      obtain rfl : e = .txn x .abandoned := by simpa using he
      exact (trafficLawful_iff.mp hs).2 f hf x hx
    next => simp at he
  next => simp at he

theorem trafficLawful_keeps (cfg : Params) : StepKeeps fun s => s.trafficLawful = true ∧ s.cfg = cfg where
  inputs _ _ _ hs := hs
  reset s hs := ⟨trafficLawful_ended hs.1 rfl rfl (lawful_abandonedTraffic hs.1) rfl, hs.2⟩
  refused s _ hs st _ := ⟨trafficLawful_ended (es := []) hs.1 rfl (by simp) nofun rfl, hs.2⟩
  starts s i _ _ hs := by
    refine ⟨run_command_trafficLawful i [] (s := s.accept i) ?_, by simpa using hs.2⟩
    exact trafficLawful_of_traffic (trafficLawful_iff.mp hs.1).1 (by simp)
  goesOn s f _ _ hs := ⟨run_command_trafficLawful f.cmd f.got hs.1, by simpa using hs.2⟩

end Sys2Proof.Machine

namespace Sys2Proof.Proofs
open Sys2Proof.Machine Sys2Proof.Claims

/-- Settles O55: a command that is still in flight after a step has moved neither the tag nor `synced`, but for WR, which has
no gate. -/
theorem everyStepKeepsTheStateSound : Obligations.EveryStepKeepsTheStateSound :=
  fun _ _ hs hstep => sound_keeps.step hs hstep

/-- Settles O56: every script answers legally, and so do the gate, the decoder and a failed transaction. -/
theorem everyStepKeepsResponsesLegal : Obligations.EveryStepKeepsResponsesLegal :=
  fun _ _ hs hstep => responsesLegal_keeps.step hs hstep

/-- Settles O57: every script makes lawful transactions, and the one under way when a reset comes is one of them. -/
theorem everyStepKeepsTrafficLawful : Obligations.EveryStepKeepsTrafficLawful :=
  fun s _ hs hstep => (trafficLawful_keeps s.cfg).step ⟨hs, rfl⟩ hstep

end Sys2Proof.Proofs

/-! Where the tag and `synced` may move (R12, R146, R148): by the five transitions, WR to FEED_CONFIG1 and the reset. -/

namespace Sys2Proof.Machine
open Sys2Proof.Claims

theorem mem_transitions_iff {i : Instr} : i ∈ transitions ↔ isTransition i = true := by
  cases i <;> simp [transitions, isTransition]

/-- Only a transition assigns at its end. -/
theorem endAssigns_of_not_mem {i : Instr} (hi : i ∉ transitions) : endAssigns i = [] := by
  cases i <;> simp_all [transitions, endAssigns]

/-! ### The tag graph (R148) -/

/-- `t` shows the tag of `s`, or that of the edge of the tag graph that `i` takes from it. -/
inductive TagMoves (s t : State) : Instr → Prop
  | stays {i : Instr} (tagPos : t.tagPos = s.tagPos) (tagFeed : t.tagFeed = s.tagFeed) : TagMoves s t i
  | init (tagPos : t.tagPos = .relative) (tagFeed : t.tagFeed = .noFeed) (synced : t.synced = true) : TagMoves s t .init
  | enable (gate : existsIn .enable s) (tagPos : t.tagPos = s.tagPos) (tagFeed : t.tagFeed = .enabled) :
      TagMoves s t .enable
  | disable (gate : existsIn .disable s) (tagPos : t.tagPos = s.tagPos) (tagFeed : t.tagFeed = .noFeed) :
      TagMoves s t .disable
  | toabs (gate : existsIn .toabs s) (tagPos : t.tagPos = .absolute) (tagFeed : t.tagFeed = s.tagFeed) :
      TagMoves s t .toabs
  | torel (gate : existsIn .torel s) (tagPos : t.tagPos = .relative) (tagFeed : t.tagFeed = s.tagFeed) :
      TagMoves s t .torel

/-- The assignments at a command's end are its edge. -/
theorem tagMoves_of_assigned {i : Instr} {s t : State} (hgate : existsIn i s)
    (hpos : t.tagPos = (s.assignAll (endAssigns i)).tagPos) (hfeed : t.tagFeed = (s.assignAll (endAssigns i)).tagFeed)
    (hsynced : t.synced = (s.assignAll (endAssigns i)).synced) : TagMoves s t i := by
  by_cases hi : i ∈ transitions
  · obtain rfl | rfl | rfl | rfl | rfl : i = .init ∨ i = .enable ∨ i = .disable ∨ i = .toabs ∨ i = .torel := by
      simpa [transitions] using hi
    · exact .init hpos hfeed hsynced
    · exact .enable hgate hpos hfeed
    · exact .disable hgate hpos hfeed
    · exact .toabs hgate hpos hfeed
    · exact .torel hgate hpos hfeed
  · rw [endAssigns_of_not_mem hi] at hpos hfeed
    exact .stays hpos hfeed

theorem tagMoves_of_leavesTag {i : Instr} {s t : State} (hgate : existsIn i s)
    (h : State.LeavesTag (endAssigns i) (isTransition i) s t) : TagMoves s t i := by
  cases h with
  | unanswered shows => exact .stays shows.tagPos shows.tagFeed
  | answered w responses tagPos tagFeed synced => exact .stays tagPos tagFeed
  | assigned w responses tagPos tagFeed synced => exact tagMoves_of_assigned hgate tagPos tagFeed synced

/-- A run from a state `u` that shows what `s` shows. -/
theorem run_command_tagMoves {i : Instr} {s u : State} (hu : u.ShowsAs s) (hgate : existsIn i s) (past : List Got) :
    TagMoves s (run (isTransition i) (scriptOf u.cfg i) past u) i := by
  obtain hleaves | ⟨v, rfl, hleaves⟩ := run_command_leavesTag i past u
  · exact tagMoves_of_leavesTag hgate (hleaves.of_showsAs hu)
  · cases hleaves.of_showsAs (hu.assign (.synced false)) with
    | unanswered shows => exact .stays shows.tagPos shows.tagFeed
    | answered w responses tagPos tagFeed synced => exact .stays tagPos tagFeed
    | assigned w responses tagPos tagFeed synced => exact .stays tagPos tagFeed

/-- In a sound state a command that runs, accepted or in flight, has its gate open. -/
theorem exec_tagMoves {i : Instr} {s t : State} (hsound : s.sound = true) (hexec : exec i s = .next t) :
    TagMoves s t i := by
  rw [exec_eq, Host.Outcome.next.injEq] at hexec
  obtain ⟨-, h⟩ | ⟨-, -, h⟩ | ⟨-, hgate, h⟩ | ⟨f, hbusy, hf, rfl, h⟩ := runCommand_cases i (scriptOf s.cfg i) s <;>
    rw [← hexec, h]
  · exact .stays rfl rfl
  · exact .stays rfl rfl
  · exact run_command_tagMoves (s := s) (u := s.accept i) ⟨rfl, rfl, rfl, rfl⟩ (gateOf_holds_iff.mp hgate) []
  · obtain ⟨hidle, -⟩ | ⟨f', -, hf', hgate⟩ := sound_iff.mp hsound
    · simp [hbusy] at hidle
    · obtain rfl : f = f' := Option.some.inj (hf.symm.trans hf')
      exact run_command_tagMoves ⟨rfl, rfl, rfl, rfl⟩ (gateOf_holds_iff.mp hgate) f.got

/-! ### `synced` (R12) -/

theorem synced_of_leavesTag {i : Instr} {s t : State} (hi : i ∉ transitions)
    (h : State.LeavesTag (endAssigns i) (isTransition i) s t) : t.synced = s.synced := by
  rw [endAssigns_of_not_mem hi] at h
  cases h with
  | unanswered shows => exact shows.synced
  | answered w responses tagPos tagFeed synced =>
    exact synced.resolve_right fun htr => hi (mem_transitions_iff.mpr htr.1)
  | assigned w responses tagPos tagFeed synced => exact synced

/-- A command that is no transition and does not write FEED_CONFIG1 leaves `synced`. -/
theorem exec_synced {i : Instr} {s t : State} (hi : i ∉ transitions) (hwr : ∀ v, i ≠ .wr .feedConfig1 v)
    (hexec : exec i s = .next t) : t.synced = s.synced := by
  have run_synced (past : List Got) (u : State) :
      (run (isTransition i) (scriptOf u.cfg i) past u).synced = u.synced := by
    obtain hleaves | ⟨v, rfl, -⟩ := run_command_leavesTag i past u
    · exact synced_of_leavesTag hi hleaves
    · exact absurd rfl (hwr v)
  rw [exec_eq, Host.Outcome.next.injEq] at hexec
  obtain ⟨-, h⟩ | ⟨-, -, h⟩ | ⟨-, -, h⟩ | ⟨f, -, -, -, h⟩ := runCommand_cases i (scriptOf s.cfg i) s <;>
    rw [← hexec, h]
  · rfl
  · exact run_synced [] (s.accept i)
  · exact run_synced f.got s

/-- A step that is no reset runs the command `j`, presented to an idle block or in flight in a busy one (R13, R14). -/
def State.Runs (s : State) (j : Instr) : Prop := notReset s ∧
  ((∃ w rest, s.busy = false ∧ s.hostIn = .command w :: rest ∧ decodeWith s.cfg.fields w = .ok j) ∨
   (∃ f, s.busy = true ∧ s.inFlight = some f ∧ f.cmd = j))

/-- A step runs a command, or it is a reset, or it leaves `synced`. -/
theorem step_runs {s t : State} (hstep : step s = .next t) :
    (∃ j u, s.Runs j ∧ u.synced = s.synced ∧ exec j u = .next t) ∨ (¬ notReset s ∧ t.synced = false) ∨
      t.synced = s.synced := by
  obtain ⟨hreset, hport⟩ | ⟨hreset, hport⟩ := portAction_cases s
  · rw [step, hport] at hstep
    obtain rfl := Host.Outcome.next.inj hstep
    exact .inr (.inl ⟨by simp [hreset], rfl⟩)
  · obtain ⟨w, rest, hh, hidle, ⟨i, hdec, hc⟩ | ⟨e, -, hc⟩⟩ | ⟨u, -, hc⟩ | ⟨u, f, hbusy, hf, hc⟩ | ⟨u, -, -, hc⟩ :=
      commandPort_cases (s.withResetIn s.resetIn.tail) <;> rw [step, hport, hc] at hstep
    · exact .inl ⟨i, (s.withResetIn s.resetIn.tail).withHostIn rest, ⟨hreset, .inl ⟨w, rest, hidle, hh, hdec⟩⟩, rfl, hstep⟩
    · obtain rfl := Host.Outcome.next.inj hstep
      exact .inr (.inr rfl)
    · obtain rfl := Host.Outcome.next.inj hstep
      exact .inr (.inr rfl)
    · exact .inl ⟨f.cmd, (s.withResetIn s.resetIn.tail).withHostIn u, ⟨hreset, .inr ⟨f, hbusy, hf, rfl⟩⟩, rfl, hstep⟩
    · obtain rfl := Host.Outcome.next.inj hstep
      exact .inr (.inr rfl)

end Sys2Proof.Machine

namespace Sys2Proof.Proofs
open Sys2Proof.Machine Sys2Proof.Claims

/-- Settles O35: a command assigns the tag only at its end, and a gate that is open says where its edge starts. -/
theorem tagMovesOnlyAlongTheTagGraph : Obligations.TagMovesOnlyAlongTheTagGraph := by
  intro i s t hsound hexec
  cases exec_tagMoves hsound hexec with
  | stays tagPos tagFeed => exact .inl ⟨tagPos, tagFeed⟩
  | init tagPos tagFeed synced => exact .inr (.inl ⟨rfl, tagPos, tagFeed, synced⟩)
  | enable gate tagPos tagFeed => exact .inr (.inr (.inl ⟨rfl, gate.1, gate.2, tagPos, tagFeed⟩))
  | disable gate tagPos tagFeed => exact .inr (.inr (.inr (.inl ⟨rfl, gate.1, gate.2, tagPos, tagFeed⟩)))
  | toabs gate tagPos tagFeed =>
    obtain ⟨hsynced, hrel, hon⟩ := gate
    exact .inr (.inr (.inr (.inr (.inl ⟨rfl, hsynced, hrel, hon, tagPos, tagFeed.trans hon⟩))))
  | torel gate tagPos tagFeed =>
    obtain ⟨hsynced, habs, hon⟩ := gate
    exact .inr (.inr (.inr (.inr (.inr ⟨rfl, hsynced, habs, hon, tagPos, tagFeed.trans hon⟩))))

/-- Settles O36: a step changes `synced` by the command that it runs, or it is a reset. -/
theorem onlyInitSetsSynced : Obligations.OnlyInitSetsSynced := by
  intro s t hstep runs
  obtain ⟨j, u, hruns, hu, hexec⟩ | ⟨hreset, hclear⟩ | hsame := step_runs hstep
  · refine ⟨fun hs ht => ?sets, fun hs ht => ?clears⟩
    case sets =>
      obtain rfl := eq_init_of_exec_sets_synced hexec (hu.trans hs) ht
      exact hruns
    case clears =>
      by_cases hj : j ∈ transitions
      · exact .inl ⟨j, hj, hruns⟩
      · by_cases hwr : ∃ v, j = .wr .feedConfig1 v
        · obtain ⟨v, rfl⟩ := hwr
          exact .inr (.inl ⟨v, hruns⟩)
        · have hkept := exec_synced hj (fun v hv => hwr ⟨v, hv⟩) hexec
          simp [hkept, hu, hs] at ht
  · exact ⟨fun _ ht => by simp [hclear] at ht, fun _ _ => .inr (.inr hreset)⟩
  · exact ⟨fun hs ht => by simp [hsame, hs] at ht, fun hs ht => by simp [hsame, hs] at ht⟩

/-- Settles O59: nothing is in flight, answered or on the bus after reset, and `synced` is 0. -/
theorem invariantsHoldAtReset : Obligations.InvariantsHoldAtReset :=
  ⟨sound_iff.mpr (.inl ⟨rfl, rfl⟩), rfl, rfl, fun start => tagInv_of_unsynced start rfl rfl⟩

end Sys2Proof.Proofs

/-! The fields of R25 by their bits: what `fieldBits` takes from a byte, what `compose` leaves of it (R80), and with them the
getters and setters by number (R104 to R124). -/

namespace Sys2Proof
open Sys2Proof.Machine

theorem FieldSpec.code_shift_of_wf {sp : FieldSpec} {c : Byte} (h : sp.wf = true) (hc : c ∈ sp.codes) :
    (c <<< sp.shift) >>> sp.shift = c := by
  obtain ⟨-, -, -, hbits⟩ := FieldSpec.wf_iff.mp h
  exact (hbits c hc).right

/-- R25 declares the codes of a field from 0 up. -/
theorem mem_codes_fieldTable_iff {f : Field} {c : Byte} :
    c ∈ (fieldTable.get f).codes ↔ c.toNat < (fieldTable.get f).variants.length := by
  rw [← fieldTable_declares_iff, FieldTable.declares, List.contains_iff_mem]

theorem decodeField_isSome_fieldTable (f : Field) (c : Byte) :
    (decodeField (fieldTable.get f) c).isSome = decide (c.toNat < (fieldTable.get f).variants.length) := by
  rw [Bool.eq_iff_iff, decide_eq_true_iff, ← mem_codes_fieldTable_iff, Option.isSome_iff_ne_none, Ne,
    decodeField_eq_none_iff, not_not]

end Sys2Proof

namespace Sys2Proof.Machine
open Sys2Proof.Claims

/-! ### Bits of a field -/

/-- A mask of `n` ones at `sp.shift` takes a slice of `n` bits. -/
theorem fieldBits_eq_slice {sp : FieldSpec} {n : Nat} (hmask : sp.mask = (BitVec.allOnes n).setWidth 8 <<< sp.shift)
    (p : Byte) : fieldBits sp p = (p.extractLsb' sp.shift n).setWidth 8 := by
  rw [fieldBits, hmask]
  ext i hi
  simp
  grind

/-- How many bits a field has (R25). -/
def fieldWidth : Field → Nat
  | .power | .axisEn | .axisInv | .tap => 2
  | .feed | .pos | .filter | .axisSwap | .scroll | .glide | .imouse => 1

theorem fieldBits_fieldTable (f : Field) (p : Byte) :
    fieldBits (fieldTable.get f) p = (p.extractLsb' (fieldTable.get f).shift (fieldWidth f)).setWidth 8 := by
  refine fieldBits_eq_slice ?_ p
  cases f <;> decide

/-! ### `compose` (R80) -/

theorem and_eq_self_of_and_not {x m : Byte} (h : x &&& ~~~m = 0) : x &&& m = x := by
  ext i hi
  have hbit : (x &&& ~~~m)[i] = false := by simp [h]
  simp at hbit ⊢
  grind

theorem compose_and_not_mask (sp : FieldSpec) (c p : Byte) : compose sp c p &&& ~~~sp.mask = p &&& ~~~sp.mask := by
  ext i hi
  simp [compose]
  grind

theorem compose_and_mask (sp : FieldSpec) (c p : Byte) : compose sp c p &&& sp.mask = c <<< sp.shift &&& sp.mask := by
  ext i hi
  simp [compose]
  grind

/-- A mask that does not meet the field's takes what it took before. -/
theorem compose_and_of_disjoint {sp : FieldSpec} {m : Byte} (h : sp.mask &&& m = 0) (c p : Byte) :
    compose sp c p &&& m = p &&& m := by
  ext i hi
  have hbit : (sp.mask &&& m)[i] = false := by simp [h]
  simp [compose] at hbit ⊢
  grind

/-- The two formulas of R80 are one for a code that lies in the mask. -/
theorem compose_of_code_in_mask {sp : FieldSpec} {c : Byte} (h : (c <<< sp.shift) &&& ~~~sp.mask = 0) (p : Byte) :
    compose sp c p = (p &&& ~~~sp.mask) ||| (c <<< sp.shift) := by
  rw [compose, and_eq_self_of_and_not h]

/-- The byte a setter of R25 writes. -/
theorem compose_fieldTable {f : Field} {c : Byte} (hc : c.toNat < (fieldTable.get f).variants.length) (p : Byte) :
    compose (fieldTable.get f) c p = (p &&& ~~~(fieldTable.get f).mask) ||| (c <<< (fieldTable.get f).shift) :=
  compose_of_code_in_mask
    (FieldSpec.code_in_mask_of_wf (FieldTable.get_wf fieldTable_wf f) (mem_codes_fieldTable_iff.mpr hc)) p

/-- At code 0 only the mask is cleared. -/
theorem compose_zero (sp : FieldSpec) (p : Byte) : compose sp 0 p = p &&& ~~~sp.mask := by simp [compose]

/-! ### The frames by number (R42) -/

theorem readOk_marked {cfg : Params} (h : cfg.framing = .marked) (r : ChipReg) (b : Byte) :
    readOk cfg r b = .txn (.writeRead (devAddr cfg.strap) [0xA0 ||| r.addr] 1) (.ok [b]) := by
  rw [readOk, h, frameRd_marked]

theorem writeOk_marked {cfg : Params} (h : cfg.framing = .marked) (r : ChipReg) (v : Byte) :
    writeOk cfg r v = .txn (.write (devAddr cfg.strap) [0x80 ||| r.addr, v]) (.ok []) := by
  rw [writeOk, h, frameWr_marked]

end Sys2Proof.Machine

namespace Sys2Proof.Proofs
open Sys2Proof.Machine Sys2Proof.Claims

/-- Settles O24: a declared code lies in the mask and loses no bit to the shift. -/
theorem updateKeepsEveryBitOutsideTheMask : Obligations.UpdateKeepsEveryBitOutsideTheMask := by
  intro sp c p hwf hc
  have hmask := FieldSpec.code_in_mask_of_wf hwf hc
  refine ⟨compose_of_code_in_mask hmask p, compose_and_not_mask sp c p, ?_⟩
  rw [fieldBits, compose_and_mask, and_eq_self_of_and_not hmask, FieldSpec.code_shift_of_wf hwf hc]

/-- Settles O25: the masks of two fields of one register do not meet. -/
theorem updateKeepsTheOtherFields : Obligations.UpdateKeepsTheOtherFields := by
  intro ft f g c p hwf hne hreg
  rw [fieldBits, fieldBits, compose_and_of_disjoint (FieldTable.masks_disjoint hwf hne hreg)]

/-- Settles O27: R25 numbers the two, four and three variants of these fields from 0 up. -/
theorem decodeFieldSucceedsOnDeclaredCodesOnly : Obligations.DecodeFieldSucceedsOnDeclaredCodesOnly := by
  intro c
  refine ⟨fun f hf => ?_, fun f hf => ?_, fun f hf => ?_⟩ <;>
    rw [decodeField_isSome_fieldTable, decide_eq_decide, ← Nat.lt_succ_iff]
  · have hlen : (fieldTable.get f).variants.length = 2 := by revert f; decide
    rw [hlen]
  · have hlen : (fieldTable.get f).variants.length = 4 := by revert f; decide
    rw [hlen]
  · have hlen : (fieldTable.get f).variants.length = 3 := by revert f; decide
    rw [hlen]

/-! ### The getters and setters by number -/

section
variable {s s1 s2 : State} {p q : Byte} (hidle : s.busy = false) (hfields : s.cfg.fields = fieldTable)
  (hsynced : s.synced = true) (hpos : s.tagPos = .relative)
include hidle hfields hsynced hpos

/-- A synced block in relative mode answers a getter with the field's slice of the byte read, as declared or not. -/
theorem exec_getterOf_fieldTable (hread : s.drawBus = (.ok p, s1)) (f : Field) :
    exec (getterOf f) s = .next (answered s1 [readOk s.cfg (fieldTable.get f).reg p]
      (if (p.extractLsb' (fieldTable.get f).shift (fieldWidth f)).toNat < (fieldTable.get f).variants.length then
        okWord ((p.extractLsb' (fieldTable.get f).shift (fieldWidth f)).setWidth 36)
      else (5 : BitVec 4) ++ ((p.extractLsb' (fieldTable.get f).shift (fieldWidth f)).setWidth 36 : Payload))) := by
  have hwidth : fieldWidth f ≤ 8 := by cases f <;> decide
  have hgate : fieldExists f s := .inr ⟨hsynced, hpos⟩
  have hbits : fieldBits (s.cfg.fields.get f) p =
      (p.extractLsb' (fieldTable.get f).shift (fieldWidth f)).setWidth 8 := by
    rw [hfields, fieldBits_fieldTable]
  have hmem : fieldBits (s.cfg.fields.get f) p ∈ (s.cfg.fields.get f).codes ↔
      (p.extractLsb' (fieldTable.get f).shift (fieldWidth f)).toNat < (fieldTable.get f).variants.length := by
    rw [hbits, hfields, mem_codes_fieldTable_iff, BitVec.toNat_setWidth_of_le hwidth]
  split
  next h =>
    rw [exec_getterOf_eq hidle hgate (run_getScript_declared hread (hmem.mpr h)), hbits, hfields,
      BitVec.setWidth_setWidth (by omega)]
  next h =>
    rw [exec_getterOf_eq hidle hgate (run_getScript_undeclared hread (mt hmem.mp h)), hbits, hfields,
      BitVec.setWidth_setWidth (by omega)]

/-- A field that declares every value of its slice has no undeclared answer. -/
theorem exec_getterOf_full (hread : s.drawBus = (.ok p, s1)) (f : Field)
    (hfull : 2 ^ fieldWidth f = (fieldTable.get f).variants.length) :
    exec (getterOf f) s = .next (answered s1 [readOk s.cfg (fieldTable.get f).reg p]
      (okWord ((p.extractLsb' (fieldTable.get f).shift (fieldWidth f)).setWidth 36))) := by
  rw [exec_getterOf_fieldTable hidle hfields hsynced hpos hread f, if_pos (hfull ▸ BitVec.isLt _)]

/-- A synced block in relative mode whose field lies in a writable register writes the byte that R80 composes. -/
theorem exec_setterOf_fieldTable (hread : s.drawBus = (.ok p, s1)) (hwrite : s1.drawBus = (.ok q, s2)) {f : Field}
    {c : Byte} {i : Instr} (hset : setterOf f c = some i) (hw : writable s.cfg (fieldTable.get f).reg)
    (hc : c.toNat < (fieldTable.get f).variants.length) :
    exec i s = .next (answered { s2 with tmp := p } [readOk s.cfg (fieldTable.get f).reg p,
      writeOk s.cfg (fieldTable.get f).reg
        ((p &&& ~~~(fieldTable.get f).mask) ||| (c <<< (fieldTable.get f).shift))] (okWord 0)) := by
  rw [← compose_fieldTable hc, ← hfields]
  exact exec_setterOf_eq hset hidle (.inr ⟨hsynced, hpos⟩)
    (run_update_ok false c _ (by rwa [hfields]) hread hwrite)

end

/-- The answer of a two-bit field with three variants, by number. -/
theorem three_variants_answer (x : BitVec 2) :
    (if x.toNat < 3 then okWord (x.setWidth 36) else (5 : BitVec 4) ++ (x.setWidth 36 : Payload)) =
      if x = 3 then (0x5000000003 : RespWord) else okWord (x.setWidth 36) := by
  revert x
  decide

/-- Settles O21: each getter reads the frame of its register and takes its slice; only POWER and TAP leave a value of their
two bits undeclared. -/
theorem gettersReadTheBitsOfTheFieldTable : Obligations.GettersReadTheBitsOfTheFieldTable := by
  intro s s1 p hidle hfields hmarked hsynced hpos hread r one two three
  have hall := exec_getterOf_fieldTable hidle hfields hsynced hpos hread
  have hfull := exec_getterOf_full hidle hfields hsynced hpos hread
  simp only [readOk_marked hmarked] at hall hfull
  have hthree (j : Nat) := three_variants_answer (p.extractLsb' j 2)
  refine ⟨(hall .power).trans ?_, hfull .feed rfl, hfull .pos rfl, hfull .filter rfl, hfull .axisEn rfl,
    hfull .axisInv rfl, hfull .axisSwap rfl, hfull .scroll rfl, (hall .tap).trans ?_, hfull .glide rfl,
    hfull .imouse rfl⟩
  all_goals exact congrArg (fun w => Host.Outcome.next (answered s1 _ w)) (hthree 1)

/-- Settles O23: each setter reads and writes the frames of its register, and R25's masks and shifts are the numbers the
rules print. -/
theorem settersWriteTheBytesOfTheFieldTable : Obligations.SettersWriteTheBytesOfTheFieldTable := by
  intro c s s1 s2 p q hidle hfields hro hmarked hsynced hpos hread hwrite done
  have hset {f : Field} {i : Instr} (h : setterOf f c = some i) (hc : c.toNat < (fieldTable.get f).variants.length) :=
    exec_setterOf_fieldTable hidle hfields hsynced hpos hread hwrite h
      (by rw [writable, hro]; cases f <;> decide) hc
  simp only [readOk_marked hmarked, writeOk_marked hmarked] at hset
  have hle {n : Nat} (hc : c.toNat ≤ n) : c.toNat < n + 1 := Nat.lt_succ_of_le hc
  refine ⟨fun hc => hset (f := .power) rfl (hle hc),
    fun hc => hset (f := .filter) rfl (hle hc), fun hc => hset (f := .axisEn) rfl (hle hc),
    fun hc => hset (f := .axisInv) rfl (hle hc), fun hc => hset (f := .axisSwap) rfl (hle hc),
    fun hc => hset (f := .scroll) rfl (hle hc), fun hc => hset (f := .tap) rfl (hle hc),
    fun hc => hset (f := .glide) rfl (hle hc), fun hc => ?_⟩
  have himouse := hset (f := .imouse) rfl (hle hc)
  rwa [show c <<< (fieldTable.get .imouse).shift = c from BitVec.shiftLeft_zero c] at himouse

/-- Settles O30: FEED and POS lie in FEED_CONFIG1 with the masks 0x01 and 0x02, and INIT clears one after the other. -/
theorem initLeavesFeedConfig1MaskedByFC : Obligations.InitLeavesFeedConfig1MaskedByFC := by
  intro s s1 s2 s3 s4 p q q2 hidle hfields hw hread hwrite hread2 hwrite2
  obtain ⟨-, -, -, -, -, -, -, hok⟩ := initReachesRelativeNoFeed s s1 s2 s3 s4 p q (p &&& 0xFE) q2 hidle
  rw [hfields] at hok
  have hfeed : composed fieldTable.feed 0 p = p &&& 0xFE := compose_zero fieldTable.feed p
  have hboth : composed fieldTable.pos 0 (p &&& 0xFE) = p &&& 0xFC := by
    rw [show composed fieldTable.pos 0 (p &&& 0xFE) = (p &&& 0xFE) &&& 0xFD from compose_zero fieldTable.pos _,
      BitVec.and_assoc]
    rfl
  rw [hfeed, hboth] at hok
  exact hok hw hread hwrite hw hread2 hwrite2

end Sys2Proof.Proofs

/-! The tag against a passive chip (R8, R11, log entry 8): what each event says of FEED_CONFIG1, what a script keeps of it at
each of its transactions, and that every script keeps what `midWay` says of its command. -/

namespace Sys2Proof.Machine
open Sys2Proof.Claims

/-! ### What one event says of a register -/

theorem frameWr_injective {fr : Framing} {q r : ChipReg} (h : frameWr fr q.addr = frameWr fr r.addr) : q = r := by
  cases fr with
  | marked =>
    rw [frameWr_marked_eq_add, frameWr_marked_eq_add, BitVec.add_right_inj] at h
    exact addr_injective h
  | raw => exact addr_injective h

section
variable {cfg : Params} {q r : ChipReg} {v : ChipView} {b x : Byte}

/-- An event after which the chip still counts as passive came when it did. -/
theorem passive_of_see {e : BusEvent} (h : (v.see cfg r e).passive = true) : v.passive = true := by
  unfold ChipView.see at h
  split at h <;> grind

theorem see_readOk_may : (v.see cfg r (.txn (readTxn cfg q) (.ok [b]))).may = v.may := by
  simp only [ChipView.see]
  split <;> rfl

/-- A passive chip answers a read with a byte the register may hold. -/
theorem mem_may_of_see_readOk (h : (v.see cfg r (.txn (readTxn cfg r) (.ok [b]))).passive = true) : b ∈ v.may := by
  simp only [ChipView.see, if_true, Bool.and_eq_true, List.contains_iff_mem] at h
  exact h.2

theorem see_writeOk_same : (v.see cfg r (.txn (writeTxn cfg r x) (.ok []))).may = [x] := by
  simp [ChipView.see, writeTxn]

theorem see_writeErr_same : (v.see cfg r (.txn (writeTxn cfg r x) .err)).may = v.may ++ [x] := by
  simp [ChipView.see, writeTxn]

theorem see_writeOk_other (h : q ≠ r) : v.see cfg r (.txn (writeTxn cfg q x) (.ok [])) = v := by
  simp [ChipView.see, writeTxn, mt frameWr_injective h]

theorem see_writeErr_other (h : q ≠ r) : v.see cfg r (.txn (writeTxn cfg q x) .err) = v := by
  simp [ChipView.see, writeTxn, mt frameWr_injective h]

theorem chipView_concat (start : List Byte) (es : List BusEvent) (e : BusEvent) :
    chipView cfg r start (es ++ [e]) = (chipView cfg r start es).see cfg r e := by
  simp [chipView]

end

/-! ### The tag against the bytes FEED_CONFIG1 may hold -/

/-- Where `synced` is 1, the tag agrees with every byte of `may`. -/
def State.agreesWith (s : State) (may : List Byte) : Prop :=
  s.synced = true → ∀ b ∈ may, tagAgrees s.cfg s b = true

/-- The view of FEED_CONFIG1 that the block's traffic gives. -/
def State.view (s : State) (start : List Byte) : ChipView := chipView s.cfg .feedConfig1 start s.traffic

/-- `t` has the tag, `synced` and the parameters of `s`. -/
structure State.SameTag (t s : State) : Prop where
  tagPos : t.tagPos = s.tagPos
  tagFeed : t.tagFeed = s.tagFeed
  synced : t.synced = s.synced
  cfg : t.cfg = s.cfg

theorem State.SameTag.trans {s t u : State} (h : u.SameTag t) (h' : t.SameTag s) : u.SameTag s :=
  ⟨h.tagPos.trans h'.tagPos, h.tagFeed.trans h'.tagFeed, h.synced.trans h'.synced, h.cfg.trans h'.cfg⟩

theorem State.SameTag.assign {s t : State} (h : t.SameTag s) (a : Assign) : (t.assign a).SameTag (s.assign a) := by
  cases a <;> exact ⟨by simp [h.tagPos], by simp [h.tagFeed], by simp [h.synced], by simp [h.cfg]⟩

theorem State.SameTag.assignAll {s t : State} (h : t.SameTag s) (as : List Assign) :
    (t.assignAll as).SameTag (s.assignAll as) := by
  induction as generalizing t s with
  | nil => exact h
  | cons a as ih => exact ih (h.assign a)

section
variable {s t : State} {may : List Byte}

theorem agreesWith_of_unsynced (h : s.synced = false) : s.agreesWith may := by simp [State.agreesWith, h]

theorem State.SameTag.tagAgrees (h : t.SameTag s) (cfg : Params) (b : Byte) : tagAgrees cfg t b = tagAgrees cfg s b := by
  rw [Machine.tagAgrees, Machine.tagAgrees, h.tagPos, h.tagFeed]

theorem State.SameTag.agreesWith (h : t.SameTag s) (hs : s.agreesWith may) : t.agreesWith may := by
  intro ht b hb
  rw [h.tagAgrees, h.cfg]
  exact hs (h.synced ▸ ht) b hb

theorem State.SameTag.updateMidWay {after after' : State} {got : List Got} (h : t.SameTag s)
    (hafter : after'.SameTag after) (hs : updateMidWay s after may got) : updateMidWay t after' may got := by
  intro ht
  have hs := hs (h.synced ▸ ht)
  simpa only [h.cfg, h.tagAgrees, hafter.tagAgrees] using hs

theorem State.SameTag.midWay {f : InFlight} (h : t.SameTag s) (hs : midWay s may f) : midWay t may f := by
  obtain ⟨cmd, got, w⟩ := f
  cases cmd
  case init => exact hs
  case enable => exact h.updateMidWay (h.assign (.feed .enabled)) hs
  case disable => exact h.updateMidWay (h.assign (.feed .noFeed)) hs
  case toabs => exact h.updateMidWay (h.assign (.pos .absolute)) hs
  case torel => exact h.updateMidWay (h.assign (.pos .relative)) hs
  case setFilter c | setAxisEn c | setAxisInv c => exact h.updateMidWay h hs
  all_goals exact h.agreesWith hs

/-- At the field table of R25 the tag agrees with the low two bits. -/
theorem tagAgrees_iff {cfg : Params} (hfields : cfg.fields = fieldTable) {b : Byte} : tagAgrees cfg s b = true ↔
    b.getLsbD 0 = (s.tagFeed == .enabled) ∧ b.getLsbD 1 = (s.tagPos == .absolute) := by
  have hfeed : fieldBits cfg.fields.feed b = (b.extractLsb' 0 1).setWidth 8 := by
    rw [hfields]
    exact fieldBits_fieldTable .feed b
  have hpos : fieldBits cfg.fields.pos b = (b.extractLsb' 1 1).setWidth 8 := by
    rw [hfields]
    exact fieldBits_fieldTable .pos b
  rw [tagAgrees, hfeed, hpos, ← ofBool_getLsbD, ← ofBool_getLsbD, hfields]
  cases b.getLsbD 0 <;> cases b.getLsbD 1 <;> cases s.tagFeed <;> cases s.tagPos <;> decide

end

/-! ### What a script keeps at each of its transactions -/

/-- The script keeps `M`, which speaks of the bytes FEED_CONFIG1 may hold and of what the command has been given, at each
transaction that it makes after `done`; and where it ends, what it leaves of `s` agrees with those bytes. `past` is what a
record may hold beyond what the script has taken. -/
def Script.KeepsChip (s : State) (tr : Bool) (M : List Byte → List Got → Prop) : Script → List Got → Prop
  | .respond _ _, done => ∀ may past, M may (done ++ past) → s.agreesWith may
  | .raise e _, done => (tr && desyncs e) = false → ∀ may past, M may (done ++ past) → s.agreesWith may
  | .xfer t k, done =>
    (∀ v b, (ChipView.see s.cfg .feedConfig1 v (.txn t (okResult t b))).passive = true → M v.may done →
      M (ChipView.see s.cfg .feedConfig1 v (.txn t (okResult t b))).may (done ++ [Got.byte b])) ∧
    (tr = false → ∀ v : ChipView, M v.may done → s.agreesWith (v.see s.cfg .feedConfig1 (.txn t .err)).may) ∧
    ∀ b, (k b).KeepsChip s tr M (done ++ [Got.byte b])
  | .sample k, done =>
    (∀ may l, M may done → M may (done ++ [Got.level l])) ∧ ∀ l, (k l).KeepsChip s tr M (done ++ [Got.level l])
  | .latch v k, done => (k v).KeepsChip s tr M done
  | .assign a k, done => ∃ as p, .assign a k = Script.assigning as (.respond .ok p) ∧
      ∀ may past, M may (done ++ past) → (s.assignAll as).agreesWith may

/-- The command `i` is in flight in `t`, has been given `got`, and has left the tag of `s`; and `M` holds of FEED_CONFIG1. -/
structure State.OnTheWay (start : List Byte) (s : State) (i : Instr) (M : List Byte → List Got → Prop) (t : State)
    (got : List Got) : Prop where
  busy : t.busy = true
  inFlight : ∃ w, t.inFlight = some ⟨i, got, w⟩
  sameTag : t.SameTag s
  holds : (t.view start).passive = true → M (t.view start).may got

section
variable {start : List Byte} {s t u : State} {i : Instr} {M : List Byte → List Got → Prop} {got done : List Got} {tr : Bool}

/-- Nothing that `OnTheWay` speaks of is changed, but for the transaction under way. -/
theorem State.OnTheWay.congr (h : State.OnTheWay start s i M t got) (hbusy : u.busy = t.busy)
    (hflight : ∃ w, u.inFlight = some ⟨i, got, w⟩) (htag : u.SameTag t) (htraffic : u.traffic = t.traffic) :
    State.OnTheWay start s i M u got := by
  have hview : u.view start = t.view start := by rw [State.view, State.view, htag.cfg, htraffic]
  exact ⟨hbusy.trans h.busy, hflight, htag.trans h.sameTag, hview ▸ h.holds⟩

theorem State.OnTheWay.drawBus (h : State.OnTheWay start s i M t got) : State.OnTheWay start s i M t.drawBus.2 got :=
  h.congr (by simp) (by simpa using h.inFlight) ⟨by simp, by simp, by simp, by simp⟩ (by simp)

theorem State.OnTheWay.drawPin (h : State.OnTheWay start s i M t got) : State.OnTheWay start s i M t.drawPin.2 got :=
  h.congr (by simp) (by simpa using h.inFlight) ⟨by simp, by simp, by simp, by simp⟩ (by simp)

theorem State.OnTheWay.waitFor (h : State.OnTheWay start s i M t got) (x : Txn) :
    State.OnTheWay start s i M (t.waitFor x) got := by
  obtain ⟨w, hw⟩ := h.inFlight
  exact h.congr rfl ⟨some x, by simp [hw]⟩ ⟨rfl, rfl, rfl, rfl⟩ rfl

theorem view_record (e : BusEvent) : (t.record e).view start = (t.view start).see t.cfg .feedConfig1 e :=
  chipView_concat start t.traffic e

/-- One event more, and what the command is given with it. -/
theorem State.OnTheWay.event (h : State.OnTheWay start s i M t got) {e : BusEvent} {g : Got}
    (hM : ∀ v : ChipView, (v.see s.cfg .feedConfig1 e).passive = true → M v.may got →
      M (v.see s.cfg .feedConfig1 e).may (got ++ [g])) :
    State.OnTheWay start s i M ((t.record e).remember g) (got ++ [g]) := by
  obtain ⟨w, hw⟩ := h.inFlight
  have hview : ((t.record e).remember g).view start = (t.view start).see s.cfg .feedConfig1 e := by
    rw [← h.sameTag.cfg]
    exact view_record (t := t) e
  refine ⟨h.busy, ⟨none, by simp [hw]⟩, ⟨h.sameTag.tagPos, h.sameTag.tagFeed, h.sameTag.synced, h.sameTag.cfg⟩, ?_⟩
  rw [hview]
  exact fun hpassive => hM _ hpassive (h.holds (passive_of_see hpassive))

/-- An ended command whose tag agrees with what FEED_CONFIG1 may hold. -/
theorem tagInv_of_agrees (hidle : u.busy = false)
    (h : (u.view start).passive = true → u.agreesWith (u.view start).may) : u.tagInv start :=
  (tagInv_idle start hidle).mpr h

theorem tagInv_finish (h : State.OnTheWay start s i M t got) (hagrees : ∀ may, M may got → t.agreesWith may)
    (st : Status) (p : Payload) : (t.finish st p).tagInv start :=
  tagInv_of_agrees rfl fun hpassive => hagrees _ (h.holds hpassive)

/-- An error clears `synced`, or it leaves the tag as it was. -/
theorem tagInv_raiseError (e : Status) (info : Payload)
    (h : (tr && desyncs e) = false → (t.view start).passive = true → t.agreesWith (t.view start).may) :
    (t.raiseError tr e info).tagInv start := by
  cases htr : tr && desyncs e with
  | true => exact tagInv_of_unsynced start (by simp) (by simp [htr])
  | false =>
    have hfinish : t.raiseError tr e info = t.finish e info := by simp [State.raiseError, htr]
    rw [hfinish]
    exact tagInv_of_agrees rfl (h htr)

/-- A run of a script that keeps `M` ends with the tag matching the chip, or it is still on its way. -/
theorem run_keepsChip {sc : Script} {past : List Got} (h : sc.KeepsChip s tr M done)
    (ht : State.OnTheWay start s i M t (done ++ past)) :
    (run tr sc past t).busy = false ∧ (run tr sc past t).tagInv start ∨
      ∃ got, State.OnTheWay start s i M (run tr sc past t) got := by
  induction sc generalizing done past t with
  | respond st p => exact .inl ⟨rfl, tagInv_finish ht (fun may hM => ht.sameTag.agreesWith (h may past hM)) st p⟩
  | raise e info =>
    refine .inl ⟨by simp, tagInv_raiseError e info fun htr hpassive => ?_⟩
    exact ht.sameTag.agreesWith (h htr _ past (ht.holds hpassive))
  | latch v k ih => exact ih v h (ht.congr rfl ht.inFlight ⟨rfl, rfl, rfl, rfl⟩ rfl)
  | assign a k _ =>
    obtain ⟨as, p, heq, hagrees⟩ := h
    have hview : (t.assignAll as).view start = t.view start :=
      assignAll_keeps (P := fun u => u.view start = t.view start)
        (fun u a hu => by rw [← hu, State.view, State.view, assign_cfg, assign_traffic]) as rfl
    rw [heq, run_assigning]
    refine .inl ⟨rfl, tagInv_of_agrees rfl fun hpassive => ?_⟩
    change ((t.assignAll as).view start).passive = true at hpassive
    change (t.assignAll as).agreesWith ((t.assignAll as).view start).may
    rw [hview] at hpassive ⊢
    exact (ht.sameTag.assignAll as).agreesWith (hagrees _ past (ht.holds hpassive))
  | sample k ih =>
    match past with
    | .level l :: past => exact ih l (h.2 l) (by simpa using ht)
    | .byte b :: past => exact .inr ⟨_, ht⟩
    | [] =>
      rw [List.append_nil] at ht
      rw [run_sample]
      have hgiven := ht.drawPin.event (e := .pin t.drawPin.1) (g := .level t.drawPin.1) fun v _ hM => h.1 v.may _ hM
      exact ih _ (h.2 _) (by simpa using hgiven)
  | xfer x k ih =>
    match past with
    | .byte b :: past => exact ih b (h.2.2 b) (by simpa using ht)
    | .level l :: past => exact .inr ⟨_, ht⟩
    | [] =>
      rw [List.append_nil] at ht
      match ha : t.drawBus.1 with
      | .ok b =>
        rw [run_xfer_ok tr x k ha]
        exact ih b (h.2.2 b) (by simpa using ht.drawBus.event fun v hpassive hM => h.1 v b hpassive hM)
      | .err =>
        rw [run_xfer_err tr x k ha]
        have hdrawn := ht.drawBus
        refine .inl ⟨by simp, tagInv_raiseError _ _ fun htr hpassive => ?_⟩
        rw [view_record, hdrawn.sameTag.cfg] at hpassive ⊢
        have hsame : (t.drawBus.2.record (.txn x .err)).SameTag s :=
          .trans (t := t.drawBus.2) ⟨rfl, rfl, rfl, rfl⟩ hdrawn.sameTag
        exact hsame.agreesWith (h.2.1 (by simpa [desyncs] using htr) _ (hdrawn.holds (passive_of_see hpassive)))
      | .stall =>
        rw [run_xfer_stall tr x k ha]
        exact .inr ⟨_, ht.drawBus.waitFor x⟩
      | .later =>
        rw [run_xfer_later tr x k ha]
        exact .inr ⟨_, ht.drawBus⟩

end

/-! ### The register primitives -/

section
variable {s : State} {tr : Bool} {M : List Byte → List Got → Prop} {done : List Got} {r : ChipReg} {k : Script}

/-- A read leaves what the register may hold; of FEED_CONFIG1 it brings a byte of that. -/
theorem memRead_keepsChip {k : Byte → Script}
    (hread : ∀ may b, (r = .feedConfig1 → b ∈ may) → M may done → M may (done ++ [Got.byte b]))
    (hfail : tr = false → ∀ may, M may done → s.agreesWith may)
    (hk : ∀ b, (k b).KeepsChip s tr M (done ++ [Got.byte b])) : (memRead s.cfg r k).KeepsChip s tr M done := by
  refine ⟨fun v b hpassive hM => ?_, fun htr v hM => hfail htr v.may hM, hk⟩
  simp only [show okResult (readTxn s.cfg r) b = .ok [b] from rfl] at hpassive ⊢
  rw [see_readOk_may]
  exact hread v.may b (fun hr => mem_may_of_see_readOk (by rwa [hr] at hpassive)) hM

/-- A write to another register leaves FEED_CONFIG1. -/
theorem memWrite_other_keepsChip (v : Byte) (hr : r ≠ .feedConfig1)
    (hwrite : ∀ may b, M may done → M may (done ++ [Got.byte b]))
    (hfail : tr = false → ∀ may past, M may (done ++ past) → s.agreesWith may)
    (hk : ∀ b, k.KeepsChip s tr M (done ++ [Got.byte b])) : (memWrite s.cfg r v k).KeepsChip s tr M done := by
  unfold memWrite
  split
  · exact fun htr => hfail (by simpa [desyncs] using htr)
  · refine ⟨fun w b _ hM => ?_, fun htr w hM => ?_, hk⟩
    · simp only [show okResult (writeTxn s.cfg r v) b = .ok [] from rfl, see_writeOk_other hr]
      exact hwrite w.may b hM
    · rw [see_writeErr_other hr]
      exact hfail htr w.may [] (by simpa using hM)

/-- A write to FEED_CONFIG1 leaves the byte written, or, where it fails, one of the two. -/
theorem memWrite_same_keepsChip (v : Byte) (hwrite : ∀ may b, M may done → M [v] (done ++ [Got.byte b]))
    (hrefuse : tr = false → ∀ may past, M may (done ++ past) → s.agreesWith may)
    (hfail : tr = false → ∀ may, M may done → s.agreesWith (may ++ [v]))
    (hk : ∀ b, k.KeepsChip s tr M (done ++ [Got.byte b])) : (memWrite s.cfg .feedConfig1 v k).KeepsChip s tr M done := by
  unfold memWrite
  split
  · exact fun htr => hrefuse (by simpa [desyncs] using htr)
  · refine ⟨fun w b _ hM => ?_, fun htr w hM => ?_, hk⟩
    · simp only [show okResult (writeTxn s.cfg .feedConfig1 v) b = .ok [] from rfl, see_writeOk_same]
      exact hwrite w.may b hM
    · rw [see_writeErr_same]
      exact hfail htr w.may hM

/-- `Update` of a field in FEED_CONFIG1. -/
theorem update_same_keepsChip {f : Field} {c : Byte} (hreg : (s.cfg.fields.get f).reg = .feedConfig1)
    (hread : ∀ may p, p ∈ may → M may done → M may (done ++ [Got.byte p]))
    (hwrite : ∀ may p q, M may (done ++ [Got.byte p]) →
      M [compose (s.cfg.fields.get f) c p] (done ++ [Got.byte p] ++ [Got.byte q]))
    (hrefuse : tr = false → ∀ may past, M may (done ++ past) → s.agreesWith may)
    (hfail : tr = false → ∀ may p, M may (done ++ [Got.byte p]) →
      s.agreesWith (may ++ [compose (s.cfg.fields.get f) c p]))
    (hk : ∀ p q, k.KeepsChip s tr M (done ++ [Got.byte p] ++ [Got.byte q])) :
    (update s.cfg f c k).KeepsChip s tr M done := by
  unfold update
  rw [hreg]
  split
  · exact fun htr => hrefuse (by simpa [desyncs] using htr)
  · refine memRead_keepsChip (fun may p hp => hread may p (hp rfl))
      (fun htr may hM => hrefuse htr may [] (by simpa using hM)) fun p => ?_
    refine memWrite_same_keepsChip _ (fun may q => hwrite may p q) (fun htr may past hM => ?_)
      (fun htr may => hfail htr may p) (hk p)
    exact hrefuse htr may (.byte p :: past) (by simpa using hM)

end

/-! ### Commands that leave FEED_CONFIG1 alone -/

section
variable {s : State} {tr : Bool} {done : List Got} {k : Script}

/-- What such a command keeps: that the tag agrees with what FEED_CONFIG1 may hold. -/
abbrev State.keepsAgreeing (s : State) (tr : Bool) (sc : Script) (done : List Got) : Prop :=
  sc.KeepsChip s tr (fun may _ => s.agreesWith may) done

theorem respond_keepsAgreeing (st : Status) (p : Payload) : s.keepsAgreeing tr (.respond st p) done := fun _ _ h => h

theorem raise_keepsAgreeing (e : Status) (p : Payload) : s.keepsAgreeing tr (.raise e p) done := fun _ _ _ h => h

theorem memRead_keepsAgreeing (r : ChipReg) {k : Byte → Script}
    (hk : ∀ b done, s.keepsAgreeing tr (k b) done) : s.keepsAgreeing tr (memRead s.cfg r k) done :=
  memRead_keepsChip (fun _ _ _ h => h) (fun _ _ h => h) fun b => hk b _

theorem memWrite_keepsAgreeing {r : ChipReg} (v : Byte) (hr : r ≠ .feedConfig1) (hk : ∀ done, s.keepsAgreeing tr k done) :
    s.keepsAgreeing tr (memWrite s.cfg r v k) done :=
  memWrite_other_keepsChip v hr (fun _ _ h => h) (fun _ _ _ h => h) fun _ => hk _

theorem update_keepsAgreeing {f : Field} {c : Byte} (hreg : (s.cfg.fields.get f).reg ≠ .feedConfig1)
    (hk : ∀ done, s.keepsAgreeing tr k done) : s.keepsAgreeing tr (update s.cfg f c k) done := by
  unfold update
  split
  · exact raise_keepsAgreeing _ _
  · exact memRead_keepsAgreeing _ fun p done => memWrite_keepsAgreeing (done := done) _ hreg hk

theorem statusReady_keepsAgreeing (hk : ∀ done, s.keepsAgreeing tr k done) :
    s.keepsAgreeing tr (statusReady s.cfg k) done := by
  refine memRead_keepsAgreeing _ fun st done => ?_
  split
  · exact respond_keepsAgreeing _ _
  · exact hk done

theorem dataReady_keepsAgreeing (hk : ∀ done, s.keepsAgreeing tr k done) :
    s.keepsAgreeing tr (dataReady s.cfg k) done := by
  unfold dataReady
  split
  · refine ⟨fun _ _ h => h, fun l => ?_⟩
    cases l with
    | fault => exact raise_keepsAgreeing _ _
    | low => exact respond_keepsAgreeing _ _
    | high => exact statusReady_keepsAgreeing hk
  · exact statusReady_keepsAgreeing hk

theorem wrScript_keepsAgreeing {r : ChipReg} (hr : r ≠ .feedConfig1) (b : Byte) :
    s.keepsAgreeing tr (wrScript s.cfg r b) done := by
  unfold wrScript
  split
  · exact raise_keepsAgreeing _ _
  · dsimp only
    exact memWrite_keepsAgreeing b hr fun _ => respond_keepsAgreeing _ _

theorem getScript_keepsAgreeing (f : Field) : s.keepsAgreeing tr (getScript s.cfg f) done := by
  refine memRead_keepsAgreeing _ fun p done => ?_
  split
  · exact respond_keepsAgreeing _ _
  · exact raise_keepsAgreeing _ _

end

/-! ### Commands that update FEED_CONFIG1 -/

section
variable {s : State} {may : List Byte}

/-- The tag looks at the low two bits only. -/
theorem tagAgrees_congr (hfields : s.cfg.fields = fieldTable) {b p : Byte} (hlow : b &&& 0x03 = p &&& 0x03) :
    tagAgrees s.cfg s b = tagAgrees s.cfg s p := by
  have hbit (i : Nat) : (b &&& 0x03).getLsbD i = (p &&& 0x03).getLsbD i := by rw [hlow]
  have h0 : b.getLsbD 0 = p.getLsbD 0 := by simpa using hbit 0
  have h1 : b.getLsbD 1 = p.getLsbD 1 := by simpa using hbit 1
  rw [Bool.eq_iff_iff, tagAgrees_iff hfields, tagAgrees_iff hfields, h0, h1]

/-- An `Update` of a field other than FEED and POS leaves the two bits of the tag. -/
theorem tagAgrees_compose_other (hfields : s.cfg.fields = fieldTable) {f : Field} (c p : Byte)
    (hmask : (fieldTable.get f).mask &&& 0x03 = 0) (h : tagAgrees s.cfg s p = true) :
    tagAgrees s.cfg s (compose (s.cfg.fields.get f) c p) = true := by
  rw [tagAgrees_congr hfields (compose_and_of_disjoint (by rwa [hfields]) c p), h]

theorem getLsbD_compose_feed (c p : Byte) : (compose fieldTable.feed c p).getLsbD 0 = c.getLsbD 0 ∧
    (compose fieldTable.feed c p).getLsbD 1 = p.getLsbD 1 := by
  simp [compose, fieldTable]

theorem getLsbD_compose_pos (c p : Byte) : (compose fieldTable.pos c p).getLsbD 0 = p.getLsbD 0 ∧
    (compose fieldTable.pos c p).getLsbD 1 = c.getLsbD 0 := by
  simp [compose, fieldTable]

/-- An `Update` of FEED brings the byte to the tag with the new feed bit. -/
theorem tagAgrees_compose_feed (hfields : s.cfg.fields = fieldTable) {c p : Byte} {m : FeedMode}
    (hc : c.getLsbD 0 = (m == .enabled)) (h : tagAgrees s.cfg s p = true) :
    tagAgrees s.cfg (s.assign (.feed m)) (compose (s.cfg.fields.get .feed) c p) = true := by
  obtain ⟨hbit0, hbit1⟩ := getLsbD_compose_feed c p
  rw [tagAgrees_iff hfields] at h ⊢
  rw [hfields]
  exact ⟨hbit0.trans hc, hbit1.trans h.2⟩

/-- An `Update` of POS brings the byte to the tag with the new position bit. -/
theorem tagAgrees_compose_pos (hfields : s.cfg.fields = fieldTable) {c p : Byte} {m : PosMode}
    (hc : c.getLsbD 0 = (m == .absolute)) (h : tagAgrees s.cfg s p = true) :
    tagAgrees s.cfg (s.assign (.pos m)) (compose (s.cfg.fields.get .pos) c p) = true := by
  obtain ⟨hbit0, hbit1⟩ := getLsbD_compose_pos c p
  rw [tagAgrees_iff hfields] at h ⊢
  rw [hfields]
  exact ⟨hbit0.trans h.1, hbit1.trans hc⟩

theorem agreesWith_of_updateMidWay {got : List Got} (h : updateMidWay s s may got) : s.agreesWith may := by
  match got with
  | [] => exact h
  | [Got.byte p] => exact fun hs => (h hs).2
  | [Got.level l] => exact h
  | _ :: _ :: _ => simpa [updateMidWay, State.agreesWith] using h

end

section
variable {s after : State} {tr : Bool} {k : Script}

/-- An `Update` whose byte agrees with what the tag will be. -/
theorem update_keepsMidWay {f : Field} {c : Byte} (hreg : (s.cfg.fields.get f).reg = .feedConfig1)
    (hcompose : ∀ p, tagAgrees s.cfg s p = true → tagAgrees s.cfg after (compose (s.cfg.fields.get f) c p) = true)
    (hafter : tr = false → after = s)
    (hk : ∀ p q, k.KeepsChip s tr (updateMidWay s after) [Got.byte p, .byte q]) :
    (update s.cfg f c k).KeepsChip s tr (updateMidWay s after) [] := by
  refine update_same_keepsChip hreg (fun may p hp hM hs => ?read) (fun may p q hM hs => ?write)
    (fun htr may past hM => ?refuse) (fun htr may p hM hs => ?fail) hk
  case read => exact ⟨hM hs p hp, hM hs⟩
  case write => simpa using hcompose p (hM hs).1
  case refuse =>
    rw [hafter htr] at hM
    exact agreesWith_of_updateMidWay hM
  case fail =>
    rw [hafter htr] at hcompose
    simpa [or_imp, forall_and] using ⟨(hM hs).2, hcompose p (hM hs).1⟩

end

section
variable {s : State} (hfields : s.cfg.fields = fieldTable)
include hfields

/-- A field of FEED_CONFIG1 other than FEED and POS. -/
theorem setScript_keepsMidWay {f : Field} (hreg : (fieldTable.get f).reg = .feedConfig1)
    (hmask : (fieldTable.get f).mask &&& 0x03 = 0) (c : Byte) :
    (setScript s.cfg f c).KeepsChip s false (updateMidWay s s) [] :=
  update_keepsMidWay (by rwa [hfields]) (fun p => tagAgrees_compose_other hfields c p hmask) (fun _ => rfl)
    fun _ _ _ _ hM => agreesWith_of_updateMidWay hM

theorem disableScript_keepsMidWay :
    (disableScript s.cfg).KeepsChip s true (updateMidWay s (s.assign (.feed .noFeed))) [] :=
  update_keepsMidWay (by rw [hfields]; rfl) (fun p => tagAgrees_compose_feed hfields rfl) nofun
    fun _ _ => ⟨[.feed .noFeed], 0, rfl, fun _ _ hM => hM⟩

theorem toabsScript_keepsMidWay :
    (toabsScript s.cfg).KeepsChip s true (updateMidWay s (s.assign (.pos .absolute))) [] :=
  update_keepsMidWay (by rw [hfields]; rfl) (fun p => tagAgrees_compose_pos hfields rfl) nofun
    fun _ _ => ⟨[.pos .absolute], 0, rfl, fun _ _ hM => hM⟩

theorem torelScript_keepsMidWay :
    (torelScript s.cfg).KeepsChip s true (updateMidWay s (s.assign (.pos .relative))) [] :=
  update_keepsMidWay (by rw [hfields]; rfl) (fun p => tagAgrees_compose_pos hfields rfl) nofun
    fun _ _ => ⟨[.pos .relative], 0, rfl, fun _ _ hM => hM⟩

/-- ENABLE has its status clear between the `Update` and the tag. -/
theorem enableScript_keepsMidWay :
    (enableScript s.cfg).KeepsChip s true (updateMidWay s (s.assign (.feed .enabled))) [] :=
  update_keepsMidWay (by rw [hfields]; rfl) (fun p => tagAgrees_compose_feed hfields rfl) nofun
    fun _ _ => memWrite_other_keepsChip 0x00 (by decide) (fun _ _ hM => hM) nofun
      fun _ => ⟨[.feed .enabled], 0, rfl, fun _ _ hM => hM⟩

/-- A byte whose feed bit is 0 is written back with both bits of the tag 0. -/
theorem compose_pos_zero_and_3 {p : Byte} (hp : p.getLsbD 0 = false) :
    compose (s.cfg.fields.get .pos) 0 p &&& 0x03 = 0 := by
  have hmask : ~~~fieldTable.pos.mask &&& 0x03 = 1#8 := rfl
  rw [hfields, compose_zero, BitVec.and_assoc, show (fieldTable.get .pos).mask = fieldTable.pos.mask from rfl, hmask,
    BitVec.and_one_eq_setWidth_ofBool_getLsbD, hp]
  rfl

/-- INIT clears the feed bit, then the position bit of a byte whose feed bit is clear (R141). -/
theorem initScript_keepsMidWay : (initScript s.cfg).KeepsChip s true initMidWay [] := by
  refine update_same_keepsChip (by rw [hfields]; rfl) (fun _ _ _ _ => trivial) (fun may p q _ => ?clearsFeed) nofun nofun
    fun p q => ?_
  case clearsFeed =>
    rw [hfields]
    exact List.forall_mem_singleton.mpr (getLsbD_compose_feed 0 p).1
  refine update_same_keepsChip (by rw [hfields]; rfl) (fun may p hp hM => hM p hp) (fun may p q hM => ?clearsPos) nofun
    nofun fun p2 q2 => ⟨[.pos .relative, .feed .noFeed, .synced true], 0, rfl, fun may past hM => ?agrees⟩
  case clearsPos => exact List.forall_mem_singleton.mpr (compose_pos_zero_and_3 hfields hM)
  case agrees =>
    intro _ b hb
    have hzero : tagAgrees s.cfg (s.assignAll (endAssigns .init)) 0 = true := (tagAgrees_iff hfields).mpr ⟨rfl, rfl⟩
    exact (tagAgrees_congr (s := s.assignAll (endAssigns .init)) hfields (hM b hb)).trans hzero

end

/-! ### Every command -/

/-- What holds of FEED_CONFIG1 while `i` is in flight in a block with the tag of `s`. -/
def phase (s : State) (i : Instr) (may : List Byte) (got : List Got) : Prop := midWay s may ⟨i, got, none⟩

theorem scriptOf_keepsChip {s : State} (hfields : s.cfg.fields = fieldTable) (i : Instr)
    (hwr : ∀ v, i ≠ .wr .feedConfig1 v) : (scriptOf s.cfg i).KeepsChip s (isTransition i) (phase s i) [] := by
  cases i
  case init => exact initScript_keepsMidWay hfields
  case enable => exact enableScript_keepsMidWay hfields
  case disable => exact disableScript_keepsMidWay hfields
  case toabs => exact toabsScript_keepsMidWay hfields
  case torel => exact torelScript_keepsMidWay hfields
  case setFilter c | setAxisEn c | setAxisInv c => exact setScript_keepsMidWay hfields rfl rfl c
  case setPower c | setAxisSwap c | setScroll c | setTap c | setGlide c | setImouse c =>
    exact update_keepsAgreeing (by rw [hfields]; decide) fun _ => respond_keepsAgreeing .ok 0
  case getPower | getFeed | getPos | getFilter | getAxisEn | getAxisInv | getAxisSwap | getScroll | getTap | getGlide
      | getImouse =>
    exact getScript_keepsAgreeing _
  case rd r | devid => exact memRead_keepsAgreeing _ fun _ _ => respond_keepsAgreeing .ok _
  case clrst => exact memWrite_keepsAgreeing 0x00 (by decide) fun _ => respond_keepsAgreeing .ok 0
  case wr r b =>
    have hr : r ≠ .feedConfig1 := by
      rintro rfl
      exact hwr b rfl
    exact wrScript_keepsAgreeing hr b
  case reldata =>
    exact dataReady_keepsAgreeing fun _ => memRead_keepsAgreeing _ fun _ _ => memRead_keepsAgreeing _ fun _ _ =>
      memRead_keepsAgreeing _ fun _ _ => memWrite_keepsAgreeing _ (by decide) fun _ => respond_keepsAgreeing _ _
  case absdata =>
    exact dataReady_keepsAgreeing fun _ => memRead_keepsAgreeing _ fun _ _ => memRead_keepsAgreeing _ fun _ _ =>
      memRead_keepsAgreeing _ fun _ _ => memRead_keepsAgreeing _ fun _ _ => memRead_keepsAgreeing _ fun _ _ =>
      memWrite_keepsAgreeing _ (by decide) fun _ => respond_keepsAgreeing _ _

section
variable {start : List Byte} {s t : State} {i : Instr} {got past : List Got}

theorem State.OnTheWay.tagInv (h : State.OnTheWay start s i (phase s i) t got) : t.tagInv start := by
  obtain ⟨w, hw⟩ := h.inFlight
  exact (tagInv_busy start h.busy hw).mpr fun hpassive =>
    h.sameTag.midWay (f := ⟨i, got, w⟩) (h.holds hpassive)

/-- A command that has been given nothing has the tag agree with FEED_CONFIG1, or it is INIT. -/
theorem phase_nil_of_agrees {may : List Byte} (h : s.agreesWith may) : phase s i may [] := by
  cases i
  case init => trivial
  all_goals exact h

/-- A WR to FEED_CONFIG1 clears `synced` before its write, or it is refused and changes nothing. -/
theorem run_wr_feedConfig1_tagInv {v : Byte}
    (ht : State.OnTheWay start s (.wr .feedConfig1 v) (phase s (.wr .feedConfig1 v)) t past) :
    (run false (wrScript t.cfg .feedConfig1 v) past t).tagInv start := by
  cases hro : isReadOnly t.cfg .feedConfig1 with
  | true =>
    have hraise : wrScript t.cfg .feedConfig1 v = .raise .writeToReadOnly 0 := by simp [wrScript, hro]
    rw [hraise, run_raise]
    exact tagInv_raiseError _ _ fun _ hpassive => ht.sameTag.agreesWith (ht.holds hpassive)
  | false =>
    have hassign : wrScript t.cfg .feedConfig1 v =
        .assign (.synced false) (memWrite t.cfg .feedConfig1 v (.respond .ok 0)) := by simp [wrScript, hro]
    rw [hassign, run_assign]
    have hproper : (memWrite t.cfg .feedConfig1 v (.respond .ok 0)).Proper t.cfg [] :=
      memWrite_proper _ v (legalResponse_ok 0)
    have hsynced := synced_of_leavesTag (i := .wr .feedConfig1 v) (by simp [transitions])
      (run_leavesTag (s := t.assign (.synced false)) hproper past)
    obtain ⟨hbusy, -, hcmd⟩ | ⟨hidle, -⟩ :=
      run_ends false (memWrite t.cfg .feedConfig1 v (.respond .ok 0)) past (t.assign (.synced false)) ht.busy
    · obtain ⟨w, hw⟩ := ht.inFlight
      rw [assign_inFlight, hw, Option.map_some, Option.map_eq_some_iff] at hcmd
      obtain ⟨⟨cmd, got, w'⟩, hf, rfl⟩ := hcmd
      exact (tagInv_busy start hbusy hf).mpr fun _ => agreesWith_of_unsynced hsynced
    · exact tagInv_of_unsynced start hidle hsynced

/-- A command that is in flight goes on to an end at which the tag matches the chip, or to where `midWay` describes it. -/
theorem run_command_tagInv (hfields : s.cfg.fields = fieldTable) (ht : State.OnTheWay start s i (phase s i) t past) :
    (run (isTransition i) (scriptOf t.cfg i) past t).tagInv start := by
  by_cases hwr : ∃ v, i = .wr .feedConfig1 v
  · obtain ⟨v, rfl⟩ := hwr
    exact run_wr_feedConfig1_tagInv ht
  · have hkeeps := scriptOf_keepsChip hfields i fun v hv => hwr ⟨v, hv⟩
    rw [ht.sameTag.cfg]
    obtain ⟨-, hinv⟩ | ⟨got, hway⟩ := run_keepsChip hkeeps ht
    · exact hinv
    · exact hway.tagInv

end

theorem tagInv_keeps (start : List Byte) : StepKeeps fun s => s.cfg.fields = fieldTable ∧ s.tagInv start where
  inputs _ _ _ hs := hs
  reset s hs := ⟨hs.1, tagInv_of_unsynced start rfl rfl⟩
  refused s hidle hs st _ := ⟨hs.1, (tagInv_idle start rfl).mpr ((tagInv_idle start hidle).mp hs.2)⟩
  starts s i hidle _ hs := by
    have hway : State.OnTheWay start s i (phase s i) (s.accept i) [] :=
      ⟨rfl, ⟨none, rfl⟩, ⟨rfl, rfl, rfl, rfl⟩,
        fun hpassive => phase_nil_of_agrees ((tagInv_idle start hidle).mp hs.2 hpassive)⟩
    exact ⟨by simpa using hs.1, run_command_tagInv hs.1 hway⟩
  goesOn s f hbusy hf hs := by
    have hway : State.OnTheWay start s f.cmd (phase s f.cmd) s f.got :=
      ⟨hbusy, ⟨f.waiting, hf⟩, ⟨rfl, rfl, rfl, rfl⟩, (tagInv_busy start hbusy hf).mp hs.2⟩
    exact ⟨by simpa using hs.1, run_command_tagInv hs.1 hway⟩

end Sys2Proof.Machine

namespace Sys2Proof.Proofs
open Sys2Proof.Machine Sys2Proof.Claims

/-- Settles O58: each transaction of each command keeps what `midWay` says of FEED_CONFIG1, and where a command ends that is
that the tag matches. -/
theorem tagKeepsMatchingAPassiveChip : Obligations.TagKeepsMatchingAPassiveChip := by
  intro s t start hfields hs hstep
  obtain ⟨-, ht⟩ := (tagInv_keeps start).step ⟨hfields, hs⟩ hstep
  exact ht

end Sys2Proof.Proofs

/-! The data commands that are ready (R168, R170, R171): the packet reads one after the other, the clear, and the sample in the
response. -/

namespace Sys2Proof.Machine
open Sys2Proof.Claims

/-! ### The sample by its bits -/

theorem relPayload_relDecode (b0 b1 b2 : Byte) : relPayload (relDecode b0 b1 b2) =
    (0 : BitVec 15) ++ (b0.extractLsb' 2 1 ++ (b0.extractLsb' 1 1 ++ (b0.extractLsb' 0 1 ++
      ((b0.extractLsb' 5 1 ++ b2) ++ (b0.extractLsb' 4 1 ++ b1))))) := by
  simp only [relPayload, relDecode, ofBool_getLsbD, ofInt_toInt9]

theorem absPayload_absDecode (bb xl yl hn zb : Byte) : absPayload (absDecode bb xl yl hn zb) =
    bb.extractLsb' 0 6 ++ (zb.extractLsb' 0 6 ++ ((hn.extractLsb' 4 4 ++ yl) ++ (hn.extractLsb' 0 4 ++ xl))) := by
  rw [absDecode_eq, absPayload]

/-- The clamped sample, its coordinates given by number. -/
theorem absPayload_clamp_on {cfg : Params} {bb xl yl hn zb : Byte} {x y : BitVec 12} (hon : cfg.clampEnable = true)
    (hx : x.toNat = min (max (hn.extractLsb' 0 4 ++ xl : BitVec 12).toNat cfg.xLower.toNat) cfg.xUpper.toNat)
    (hy : y.toNat = min (max (hn.extractLsb' 4 4 ++ yl : BitVec 12).toNat cfg.yLower.toNat) cfg.yUpper.toNat) :
    absPayload (clamp cfg (absDecode bb xl yl hn zb)) = bb.extractLsb' 0 6 ++ (zb.extractLsb' 0 6 ++ (y ++ x)) := by
  have hx' : clampTo cfg.xLower cfg.xUpper (hn.extractLsb' 0 4 ++ xl) = x :=
    BitVec.eq_of_toNat_eq ((clampTo_toNat ..).trans hx.symm)
  have hy' : clampTo cfg.yLower cfg.yUpper (hn.extractLsb' 4 4 ++ yl) = y :=
    BitVec.eq_of_toNat_eq ((clampTo_toNat ..).trans hy.symm)
  rw [clamp_of_on _ hon, absDecode_eq, absPayload, hx', hy']

/-! ### The status read and the clear -/

section
variable {s s1 : State} {i : Instr} {es : List BusEvent} {got : List Got} {cfg : Params} {st q : Byte} {p : Payload}

theorem run_read_err {r : ChipReg} (k : Byte → Script) (hread : s.drawBus = (.err, s1)) :
    run false (memRead cfg r k) [] (s.running i es got) = answered s1 (es ++ [readErr cfg r]) busErrorWord := by
  rw [run_memRead_err false k hread]
  rfl

/-- A status read that brings the data-ready bit leads on. -/
theorem run_statusReady_set (tr : Bool) (ready : Script) (hread : s.drawBus = (.ok st, s1)) (hset : st &&& cfg.drMask ≠ 0) :
    run tr (statusReady cfg ready) [] (s.running i es got) =
      run tr ready [] (s1.running i (es ++ [readOk cfg .status1 st]) (got ++ [.byte st])) := by
  rw [statusReady, run_memRead_ok tr _ hread, if_neg hset]

theorem run_clear_ok (hw : writable cfg .status1) (hclear : s.drawBus = (.ok q, s1)) :
    run false (clearStatus cfg (.respond .ok p)) [] (s.running i es got) =
      answered s1 (es ++ [writeOk cfg .status1 0x00]) (okWord p) := by
  rw [clearStatus, run_memWrite_ok false _ _ hw hclear]
  rfl

theorem run_clear_err (hw : writable cfg .status1) (hclear : s.drawBus = (.err, s1)) :
    run false (clearStatus cfg (.respond .ok p)) [] (s.running i es got) =
      answered s1 (es ++ [writeErr cfg .status1 0x00]) busErrorWord := by
  rw [clearStatus, run_memWrite_err false _ _ hw hclear]
  rfl

theorem run_clear_readOnly (hro : ¬ writable cfg .status1) :
    run false (clearStatus cfg (.respond .ok p)) [] (s.running i es got) = answered s es readOnlyWord := by
  rw [clearStatus, memWrite_of_readOnly _ _ hro]
  rfl

end

/-! ### The packets -/

theorem isTransition_of_mem_dataCommands {i : Instr} (hi : i ∈ dataCommands) : isTransition i = false := by
  revert i
  decide

/-- RELDATA behind its data-ready gate (R170). -/
def relPacket (cfg : Params) : Script :=
  memRead cfg cfg.relRegs.b0 fun b0 => memRead cfg cfg.relRegs.b1 fun b1 => memRead cfg cfg.relRegs.b2 fun b2 =>
    clearStatus cfg (.respond .ok (relPayload (relDecode b0 b1 b2)))

theorem scriptOf_reldata (cfg : Params) : scriptOf cfg .reldata = dataReady cfg (relPacket cfg) := rfl

/-- ABSDATA behind its data-ready gate (R171). -/
def absPacket (cfg : Params) : Script :=
  memRead cfg cfg.absRegs.button fun bb => memRead cfg cfg.absRegs.xLow fun xl => memRead cfg cfg.absRegs.yLow fun yl =>
    memRead cfg cfg.absRegs.highNibbles fun hn => memRead cfg cfg.absRegs.zLevel fun zb =>
      clearStatus cfg (.respond .ok (absPayload (clamp cfg (absDecode bb xl yl hn zb))))

theorem scriptOf_absdata (cfg : Params) : scriptOf cfg .absdata = dataReady cfg (absPacket cfg) := rfl

section
variable {s s0 s1 s2 s3 s4 s5 s6 t : State} {i : Instr} {es : List BusEvent} {got : List Got} {cfg : Params}
  {st a b c d e : Byte} {packet : Script}

/-- A data command whose line and status read let it through leaves an idle block as its packet ends. -/
theorem exec_ready (hscript : scriptOf s.cfg i = dataReady s.cfg packet) (hi : i ∈ dataCommands) (hidle : s.busy = false)
    (hgate : existsIn i s) (hline : lineLets s s0 es) (hread : s0.drawBus = (.ok st, s1)) (hset : st &&& s.cfg.drMask ≠ 0)
    (hrun : ∀ got, run false packet [] (s1.running i (es ++ [readOk s.cfg .status1 st]) got) = t) :
    exec i s = .next t := by
  have htr := isTransition_of_mem_dataCommands hi
  obtain ⟨got, hlets⟩ := run_dataReady_lineLets (i := i) false packet hline
  refine exec_eq_of_run hidle (gateOf_holds_iff.mpr hgate) ?_
  rw [htr, hscript, hlets, run_statusReady_set false packet hread hset, hrun]

/-- The three reads of RELDATA. -/
theorem run_relPacket (ha : s.drawBus = (.ok a, s1)) (hb : s1.drawBus = (.ok b, s2)) (hc : s2.drawBus = (.ok c, s3)) :
    ∃ got', run false (relPacket cfg) [] (s.running i es got) =
      run false (clearStatus cfg (.respond .ok (relPayload (relDecode a b c)))) [] (s3.running i
        (es ++ [readOk cfg cfg.relRegs.b0 a, readOk cfg cfg.relRegs.b1 b, readOk cfg cfg.relRegs.b2 c]) got') := by
  rw [relPacket, run_memRead_ok false _ ha, run_memRead_ok false _ hb, run_memRead_ok false _ hc]
  simp only [List.append_assoc, List.cons_append, List.nil_append]
  exact ⟨_, rfl⟩

/-- The five reads of ABSDATA. -/
theorem run_absPacket (ha : s.drawBus = (.ok a, s1)) (hb : s1.drawBus = (.ok b, s2)) (hc : s2.drawBus = (.ok c, s3))
    (hd : s3.drawBus = (.ok d, s4)) (he : s4.drawBus = (.ok e, s5)) :
    ∃ got', run false (absPacket cfg) [] (s.running i es got) =
      run false (clearStatus cfg (.respond .ok (absPayload (clamp cfg (absDecode a b c d e))))) [] (s5.running i
        (es ++ [readOk cfg cfg.absRegs.button a, readOk cfg cfg.absRegs.xLow b, readOk cfg cfg.absRegs.yLow c,
          readOk cfg cfg.absRegs.highNibbles d, readOk cfg cfg.absRegs.zLevel e]) got') := by
  rw [absPacket, run_memRead_ok false _ ha, run_memRead_ok false _ hb, run_memRead_ok false _ hc,
    run_memRead_ok false _ hd, run_memRead_ok false _ he]
  simp only [List.append_assoc, List.cons_append, List.nil_append]
  exact ⟨_, rfl⟩

/-- RELDATA, ready and with its packet read, leaves an idle block as its clear ends. -/
theorem exec_reldata_of_clear (hidle : s.busy = false) (hgate : existsIn .reldata s) (hline : lineLets s s0 es)
    (hread : s0.drawBus = (.ok st, s1)) (hset : st &&& s.cfg.drMask ≠ 0) (ha : s1.drawBus = (.ok a, s2))
    (hb : s2.drawBus = (.ok b, s3)) (hc : s3.drawBus = (.ok c, s4))
    (hclear : ∀ got, run false (clearStatus s.cfg (.respond .ok (relPayload (relDecode a b c)))) []
      (s4.running .reldata (es ++ [readOk s.cfg .status1 st, readOk s.cfg s.cfg.relRegs.b0 a,
        readOk s.cfg s.cfg.relRegs.b1 b, readOk s.cfg s.cfg.relRegs.b2 c]) got) = t) :
    exec .reldata s = .next t := by
  refine exec_ready (scriptOf_reldata s.cfg) (by decide) hidle hgate hline hread hset fun got => ?_
  obtain ⟨got', hrun⟩ := run_relPacket (cfg := s.cfg) (i := .reldata) ha hb hc
  rw [hrun, List.append_assoc]
  exact hclear got'

/-- ABSDATA, ready and with its packet read, leaves an idle block as its clear ends. -/
theorem exec_absdata_of_clear (hidle : s.busy = false) (hgate : existsIn .absdata s) (hline : lineLets s s0 es)
    (hread : s0.drawBus = (.ok st, s1)) (hset : st &&& s.cfg.drMask ≠ 0) (ha : s1.drawBus = (.ok a, s2))
    (hb : s2.drawBus = (.ok b, s3)) (hc : s3.drawBus = (.ok c, s4)) (hd : s4.drawBus = (.ok d, s5))
    (he : s5.drawBus = (.ok e, s6))
    (hclear : ∀ got, run false (clearStatus s.cfg (.respond .ok (absPayload (clamp s.cfg (absDecode a b c d e))))) []
      (s6.running .absdata (es ++ [readOk s.cfg .status1 st, readOk s.cfg s.cfg.absRegs.button a,
        readOk s.cfg s.cfg.absRegs.xLow b, readOk s.cfg s.cfg.absRegs.yLow c, readOk s.cfg s.cfg.absRegs.highNibbles d,
        readOk s.cfg s.cfg.absRegs.zLevel e]) got) = t) :
    exec .absdata s = .next t := by
  refine exec_ready (scriptOf_absdata s.cfg) (by decide) hidle hgate hline hread hset fun got => ?_
  obtain ⟨got', hrun⟩ := run_absPacket (cfg := s.cfg) (i := .absdata) ha hb hc hd he
  rw [hrun, List.append_assoc]
  exact hclear got'

end

end Sys2Proof.Machine

namespace Sys2Proof.Proofs
open Sys2Proof.Machine Sys2Proof.Claims

/-- Settles O37: the status read, three packet reads and the clear; the sample is only in the answer after the clear. -/
theorem reldataAnswersTheSample : Obligations.ReldataAnswersTheSample := by
  intro s s0 s1 s2 s3 s4 s5 es st b0 b1 b2 q hidle hsynced hpos hfeed hw hline hread hset h0 h1 h2 seen bit payload
  have exec_of_clear {t : State} :=
    exec_reldata_of_clear (t := t) hidle ⟨hsynced, hpos, hfeed⟩ hline hread hset h0 h1 h2
  rw [relPayload_relDecode] at exec_of_clear
  exact ⟨fun hclear => exec_of_clear fun _ => run_clear_ok hw hclear,
    fun hclear => exec_of_clear fun _ => run_clear_err hw hclear⟩

/-- Settles O38: the status read, five packet reads and the clear; the clamp is off and leaves the sample. -/
theorem absdataAnswersTheSample : Obligations.AbsdataAnswersTheSample := by
  intro s s0 s1 s2 s3 s4 s5 s6 s7 es st bb xl yl hn zb q hidle hsynced hpos hfeed hw hoff hline hread hset h0 h1 h2 h3 h4
    r seen payload
  have exec_of_clear {t : State} :=
    exec_absdata_of_clear (t := t) hidle ⟨hsynced, hpos, hfeed⟩ hline hread hset h0 h1 h2 h3 h4
  rw [clamp_of_off _ hoff, absPayload_absDecode] at exec_of_clear
  exact ⟨fun hclear => exec_of_clear fun _ => run_clear_ok hw hclear,
    fun hclear => exec_of_clear fun _ => run_clear_err hw hclear⟩

/-- Settles O48: as with the clamp off, but for the two coordinates. -/
theorem absdataAnswersTheClampedSample : Obligations.AbsdataAnswersTheClampedSample := by
  intro s s0 s1 s2 s3 s4 s5 s6 s7 es st bb xl yl hn zb q x y hidle hsynced hpos hfeed hw hon hline hread hset h0 h1 h2 h3
    h4 hx hy r seen
  have exec_of_clear {t : State} :=
    exec_absdata_of_clear (t := t) hidle ⟨hsynced, hpos, hfeed⟩ hline hread hset h0 h1 h2 h3 h4
  rw [absPayload_clamp_on hon hx hy] at exec_of_clear
  exact ⟨fun hclear => exec_of_clear fun _ => run_clear_ok hw hclear,
    fun hclear => exec_of_clear fun _ => run_clear_err hw hclear⟩

/-- Settles O41: the clear is refused before its transaction, and with it the sample. -/
theorem readOnlyStatusWithholdsTheSample : Obligations.ReadOnlyStatusWithholdsTheSample := by
  intro s s0 s1 s2 s3 s4 s5 s6 es st a b c d e hidle hro hline hread hset ha hb hc rd
  refine ⟨fun hgate => ?rel, fun hgate hd he => ?abs⟩
  case rel =>
    exact exec_reldata_of_clear hidle hgate hline hread hset ha hb hc fun _ => run_clear_readOnly hro
  case abs =>
    exact exec_absdata_of_clear hidle hgate hline hread hset ha hb hc hd he fun _ => run_clear_readOnly hro

/-- Settles O40: the run stops at the failed read, wherever in the packet it is. -/
theorem dataCommandsStopAtTheFirstFailedRead : Obligations.DataCommandsStopAtTheFirstFailedRead := by
  intro s s0 s1 s2 s3 s4 s5 s6 es st a b c d hidle hline rd no rr ar
  refine ⟨fun i hi hgate herr => ?status, fun hgate hread hset => ?rel, fun hgate hread hset => ?abs⟩
  case status =>
    refine exec_dataCommand_eq hi hidle hgate fun packet => ?_
    obtain ⟨got, hlets⟩ := run_dataReady_lineLets (i := i) false packet hline
    rw [isTransition_of_mem_dataCommands hi, hlets, statusReady, run_read_err _ herr]
  case rel =>
    have exec_of_packet {t : State} :=
      exec_ready (t := t) (scriptOf_reldata s.cfg) (by decide) hidle hgate hline hread hset
    refine ⟨fun h1 => exec_of_packet fun _ => ?b0, fun h1 h2 => exec_of_packet fun _ => ?b1,
      fun h1 h2 h3 => exec_of_packet fun _ => ?b2⟩ <;> rw [relPacket]
    case' b0 => rw [run_read_err _ h1]
    case' b1 => rw [run_memRead_ok false _ h1, run_read_err _ h2]
    case' b2 => rw [run_memRead_ok false _ h1, run_memRead_ok false _ h2, run_read_err _ h3]
    all_goals
      simp only [List.append_assoc]
      rfl
  case abs =>
    have exec_of_packet {t : State} :=
      exec_ready (t := t) (scriptOf_absdata s.cfg) (by decide) hidle hgate hline hread hset
    refine ⟨fun h1 => exec_of_packet fun _ => ?button, fun h1 h2 => exec_of_packet fun _ => ?xLow,
      fun h1 h2 h3 => exec_of_packet fun _ => ?yLow, fun h1 h2 h3 h4 => exec_of_packet fun _ => ?highNibbles,
      fun h1 h2 h3 h4 h5 => exec_of_packet fun _ => ?zLevel⟩ <;> rw [absPacket]
    case' button => rw [run_read_err _ h1]
    case' xLow => rw [run_memRead_ok false _ h1, run_read_err _ h2]
    case' yLow => rw [run_memRead_ok false _ h1, run_memRead_ok false _ h2, run_read_err _ h3]
    case' highNibbles =>
      rw [run_memRead_ok false _ h1, run_memRead_ok false _ h2, run_memRead_ok false _ h3, run_read_err _ h4]
    case' zLevel =>
      rw [run_memRead_ok false _ h1, run_memRead_ok false _ h2, run_memRead_ok false _ h3, run_memRead_ok false _ h4,
        run_read_err _ h5]
    all_goals
      simp only [List.append_assoc]
      rfl

/-- The parameters of the integrated block mask STATUS1 with the byte 4 (R22, log entry 7). -/
theorem and_4_eq_zero_iff {st : Byte} : st &&& 0x04 = 0 ↔ st.getLsbD 2 = false := by
  rw [show (0x04 : Byte) = BitVec.twoPow 8 2 from rfl, BitVec.and_twoPow]
  cases st.getLsbD 2 <;> decide

/-- Settles O39: the statements for every `cfg`, read at the registers and the mask of the integrated block. -/
theorem dataCommandsReadTheirPacketBytes : Obligations.DataCommandsReadTheirPacketBytes := by
  intro s s0 s1 s2 s3 s4 s5 s6 s7 es st a b c d e q hidle hcfg hsynced hfeed hline hread r clear rel abs
  have hmask : s.cfg.drMask = 0x04 := by rw [hcfg]; rfl
  have hmarked : s.cfg.framing = .marked := by rw [hcfg]; rfl
  have hw : writable s.cfg .status1 := by rw [writable, hcfg]; decide
  have hrel : s.cfg.relRegs = ⟨.packetByte0, .packetByte1, .packetByte2⟩ := by rw [hcfg]; rfl
  have habs : s.cfg.absRegs = ⟨.packetByte0, .packetByte2, .packetByte3, .packetByte4, .packetByte5⟩ := by rw [hcfg]; rfl
  have hoff : s.cfg.clampEnable = false := by rw [hcfg]; rfl
  have hnodata {i : Instr} (hi : i ∈ dataCommands) (hgate : existsIn i s) (hclear : st.getLsbD 2 = false) :
      exec i s = .next (answered s1 (es ++ [r 0xA2 st]) noDataWord) := by
    obtain ⟨-, hdone⟩ := notReadyAnswersNoData i s s0 s1 es st hi hidle hgate
    rw [readOk_marked hmarked] at hdone
    exact hdone hline hread (by rw [hmask, and_4_eq_zero_iff, hclear])
  refine ⟨fun hclear => ⟨fun hpos => ?_, fun hpos => ?_⟩, fun hset ha hb hc => ⟨fun hpos hq => ?rel,
    fun hpos hd he hq => ?abs⟩⟩
  · exact hnodata (i := .reldata) (by decide) ⟨hsynced, hpos, hfeed⟩ hclear
  · exact hnodata (i := .absdata) (by decide) ⟨hsynced, hpos, hfeed⟩ hclear
  case rel =>
    have hdone := (reldataAnswersTheSample s s0 s1 s2 s3 s4 s5 es st a b c q hidle hsynced hpos hfeed hw hline hread
      (by rw [hmask, Ne, and_4_eq_zero_iff, hset]; decide) ha hb hc).1 hq
    simp only [hrel, readOk_marked hmarked, writeOk_marked hmarked, List.append_assoc] at hdone
    exact hdone
  case abs =>
    have hdone := (absdataAnswersTheSample s s0 s1 s2 s3 s4 s5 s6 s7 es st a b c d e q hidle hsynced hpos hfeed hw hoff
      hline hread (by rw [hmask, Ne, and_4_eq_zero_iff, hset]; decide) ha hb hc hd he).1 hq
    simp only [habs, readOk_marked hmarked, writeOk_marked hmarked, List.append_assoc] at hdone
    exact hdone

/-- Settles O34: each of the four begins with an `Update`, which a read-only register refuses; ENABLE's clear is refused the
same way. -/
theorem readOnlyFieldRefusesTheTransition : Obligations.ReadOnlyFieldRefusesTheTransition := by
  intro i s s1 s2 p q hidle hgate fd ps
  refine ⟨fun hi hro => ?feed, fun hi hro => ?pos, ?clear⟩
  case feed =>
    obtain rfl | rfl : i = .enable ∨ i = .disable := by simpa using hi
    all_goals exact exec_transition_eq rfl hidle hgate (run_transition_update_readOnly (f := .feed) _ _ hro)
  case pos =>
    obtain rfl | rfl : i = .toabs ∨ i = .torel := by simpa using hi
    all_goals exact exec_transition_eq rfl hidle hgate (run_transition_update_readOnly (f := .pos) _ _ hro)
  case clear =>
    rintro rfl hw hro hread hwrite
    refine exec_transition_eq rfl hidle hgate ?_
    rw [show scriptOf s.cfg .enable = enableScript s.cfg from rfl, enableScript,
      run_update_ok (f := .feed) true 1 _ hw hread hwrite, clearStatus, memWrite_of_readOnly _ _ hro, run_raise,
      raiseError_transition_running 0 rfl]
    rfl

end Sys2Proof.Proofs

/-! The command port and the sequencer (R13, R14, R66): what a step takes, what a command makes at most, that a command that has
not been answered is waiting, and that what `tmp` holds at acceptance has no effect. -/

namespace Sys2Proof.Machine
open Sys2Proof.Claims

/-! ### The step -/

section
variable {s : State} {rest : List HostEvent}

/-- With nothing presented an idle block only takes its inputs (R203, R204). -/
theorem step_of_nothing (hreset : notReset s) (hidle : s.busy = false) (h : nothingPresented s rest) :
    step s = .next (inputsTaken s rest) := by
  obtain ⟨hnil, rfl⟩ | hcons := h
  · simp [step, portAction, commandPort, hreset, hidle, hnil, inputsTaken, State.withResetIn]
  · simp [step, portAction, commandPort, hreset, hidle, hcons, inputsTaken, State.withResetIn, State.withHostIn]

/-- A busy block goes on, and takes of the port an idle event only (R14). -/
theorem step_of_busy_port {f : InFlight} (hreset : notReset s) (hbusy : s.busy = true) (hf : s.inFlight = some f)
    (h : (∃ w later, s.hostIn = .command w :: later ∧ rest = s.hostIn) ∨ nothingPresented s rest) :
    step s = exec f.cmd (inputsTaken s rest) := by
  obtain ⟨w, later, hh, rfl⟩ | ⟨hh, rfl⟩ | hh := h <;>
    simp [step, portAction, commandPort, busyAction, hreset, hbusy, hf, hh, inputsTaken, State.withResetIn,
      State.withHostIn]

end

/-! ### How many transactions and samples (R6) -/

theorem txnCount_txn_cons (x : Txn) (r : TxnResult) (es : List BusEvent) :
    txnCount (.txn x r :: es) = txnCount es + 1 := by simp [txnCount]

theorem txnCount_pin_cons (l : PinLevel) (es : List BusEvent) : txnCount (.pin l :: es) = txnCount es := by
  simp [txnCount]

theorem pinCount_txn_cons (x : Txn) (r : TxnResult) (es : List BusEvent) : pinCount (.txn x r :: es) = pinCount es := by
  simp [pinCount]

theorem pinCount_pin_cons (l : PinLevel) (es : List BusEvent) : pinCount (.pin l :: es) = pinCount es + 1 := by
  simp [pinCount]

/-- A run with nothing to replay makes the transactions its script allows, and samples at most once, where it may. -/
theorem run_counts {sc : Script} {n : Nat} {may : Prop} (htxns : sc.txnsAtMost n) (hpins : sc.ReportsFaults may) (tr : Bool)
    (s : State) : ∃ es, (run tr sc [] s).traffic = s.traffic ++ es ∧ txnCount es ≤ n ∧ pinCount es ≤ 1 ∧
      (¬ may → pinCount es = 0) := by
  induction sc generalizing n may s with
  | respond st p => exact ⟨[], by simp, Nat.zero_le _, Nat.zero_le _, fun _ => rfl⟩
  | raise e p => exact ⟨[], by simp, Nat.zero_le _, Nat.zero_le _, fun _ => rfl⟩
  | latch v k ih => exact ih v (htxns v) (hpins v) (s.setTmp v)
  | assign a k ih => simpa using ih htxns hpins (s.assign a)
  | sample k ih =>
    obtain ⟨hmay, hfault, hlow, hhigh⟩ := hpins
    have htail (l : PinLevel) (u : State) : ∃ es, (run tr (k l) [] u).traffic = u.traffic ++ es ∧ txnCount es ≤ n ∧
        pinCount es = 0 := by
      cases l with
      | fault => exact ⟨[], by simp [hfault], Nat.zero_le _, rfl⟩
      | low =>
        obtain ⟨es, htraffic, htxn, -, hpin⟩ := ih .low (htxns .low) hlow u
        exact ⟨es, htraffic, htxn, hpin id⟩
      | high =>
        obtain ⟨es, htraffic, htxn, -, hpin⟩ := ih .high (htxns .high) hhigh u
        exact ⟨es, htraffic, htxn, hpin id⟩
    obtain ⟨es, htraffic, htxn, hpin⟩ :=
      htail s.drawPin.1 ((s.drawPin.2.record (.pin s.drawPin.1)).remember (.level s.drawPin.1))
    exact ⟨.pin s.drawPin.1 :: es, by simp [run_sample, htraffic], by rwa [txnCount_pin_cons],
      by rw [pinCount_pin_cons, hpin], fun hno => absurd hmay hno⟩
  | xfer x k ih =>
    match n, htxns with
    | n + 1, htxns =>
      match ha : s.drawBus.1 with
      | .ok b =>
        obtain ⟨es, htraffic, htxn, -, hpin⟩ :=
          ih b (htxns b) (hpins b) ((s.drawBus.2.record (.txn x (okResult x b))).remember (.byte b))
        refine ⟨.txn x (okResult x b) :: es, by simp [run_xfer_ok tr x k ha, htraffic], ?_⟩
        rw [txnCount_txn_cons, pinCount_txn_cons, hpin id]
        exact ⟨Nat.succ_le_succ htxn, Nat.zero_le _, fun _ => rfl⟩
      | .err =>
        exact ⟨[.txn x .err], by simp [run_xfer_err tr x k ha], Nat.succ_le_succ (Nat.zero_le _), Nat.zero_le _,
          fun _ => rfl⟩
      | .stall => exact ⟨[], by simp [run_xfer_stall tr x k ha], Nat.zero_le _, Nat.zero_le _, fun _ => rfl⟩
      | .later => exact ⟨[], by simp [run_xfer_later tr x k ha], Nat.zero_le _, Nat.zero_le _, fun _ => rfl⟩

/-! ### A command that has not been answered -/

/-- Between `s` and `t` the last answer drawn, of the script or free, is the one that is none yet. -/
def State.DrewNoAnswer (s t : State) : Prop :=
  (∃ pre, ∃ a ∈ noAnswer, s.busIn = pre ++ a :: t.busIn ∧ ∀ b ∈ pre, b ∉ noAnswer) ∨
  (t.busIn = [] ∧ (∀ b ∈ s.busIn, b ∉ noAnswer) ∧ s.draws < t.draws ∧ Config.freeBus (t.draws - 1) ∈ noAnswer)

theorem drawBus_of_nil {s : State} (h : s.busIn = []) :
    s.drawBus = (Config.freeBus s.draws, { s with draws := s.draws + 1 }) := by
  simp [State.drawBus, h]

theorem drawBus_of_cons {s : State} {a : BusAnswer} {rest : List BusAnswer} (h : s.busIn = a :: rest) :
    s.drawBus = (a, { s with busIn := rest }) := by
  simp [State.drawBus, h]

theorem drawPin_draws_le (s : State) : s.draws ≤ s.drawPin.2.draws := by
  unfold State.drawPin
  split <;> simp

section
variable {s t u : State}

theorem State.DrewNoAnswer.of_stop (ha : s.drawBus.1 ∈ noAnswer) (hbus : t.busIn = s.drawBus.2.busIn)
    (hdraws : t.draws = s.drawBus.2.draws) : s.DrewNoAnswer t := by
  cases hin : s.busIn with
  | nil =>
    rw [drawBus_of_nil hin] at ha hbus hdraws
    exact .inr ⟨hbus.trans hin, by simp [hin], by simp [hdraws], by simpa [hdraws] using ha⟩
  | cons a rest =>
    rw [drawBus_of_cons hin] at ha hbus
    exact .inl ⟨[], a, ha, by simp [hin, hbus], nofun⟩

/-- Neither the bus script nor the counter goes back. -/
theorem State.DrewNoAnswer.after_same (hbus : u.busIn = s.busIn) (hdraws : s.draws ≤ u.draws) (h : u.DrewNoAnswer t) :
    s.DrewNoAnswer t := by
  obtain ⟨pre, a, ha, heq, hpre⟩ | ⟨hnil, hpre, hlt, hfree⟩ := h
  · exact .inl ⟨pre, a, ha, hbus ▸ heq, hpre⟩
  · exact .inr ⟨hnil, hbus ▸ hpre, Nat.lt_of_le_of_lt hdraws hlt, hfree⟩

/-- An answer may stand before the one that is none yet. -/
theorem State.DrewNoAnswer.after_answer (ha : s.drawBus.1 ∉ noAnswer) (hbus : u.busIn = s.drawBus.2.busIn)
    (hdraws : u.draws = s.drawBus.2.draws) (h : u.DrewNoAnswer t) : s.DrewNoAnswer t := by
  cases hin : s.busIn with
  | nil =>
    rw [drawBus_of_nil hin] at hbus hdraws
    exact h.after_same hbus (by simp [hdraws])
  | cons b rest =>
    rw [drawBus_of_cons hin] at ha hbus hdraws
    obtain ⟨pre, a, hno, heq, hpre⟩ | ⟨hnil, hpre, hlt, hfree⟩ := h
    · exact .inl ⟨b :: pre, a, hno, by simpa [hin, hbus] using heq, List.forall_mem_cons.mpr ⟨ha, hpre⟩⟩
    · rw [hbus] at hpre
      rw [hdraws] at hlt
      exact .inr ⟨hnil, by rw [hin]; exact List.forall_mem_cons.mpr ⟨ha, hpre⟩, hlt, hfree⟩

/-- A run with nothing to replay stays busy only at an answer that is none yet. -/
theorem run_busy_drewNoAnswer {sc : Script} {tr : Bool} (hbusy : (run tr sc [] s).busy = true) :
    s.DrewNoAnswer (run tr sc [] s) := by
  induction sc generalizing s with
  | respond st p => cases hbusy
  | raise e p => simp at hbusy
  | latch v k ih => exact ih v (s := s.setTmp v) hbusy
  | assign a k ih => exact .after_same (by simp) (by simp) (ih (s := s.assign a) hbusy)
  | sample k ih =>
    rw [run_sample] at hbusy ⊢
    exact .after_same (by simp) (by simpa using drawPin_draws_le s) (ih _ hbusy)
  | xfer x k ih =>
    match ha : s.drawBus.1 with
    | .ok b =>
      rw [run_xfer_ok tr x k ha] at hbusy ⊢
      exact .after_answer (by rw [ha]; simp [noAnswer]) (by simp) (by simp) (ih b hbusy)
    | .err => simp [run_xfer_err tr x k ha] at hbusy
    | .stall =>
      rw [run_xfer_stall tr x k ha]
      exact .of_stop (by rw [ha]; decide) rfl rfl
    | .later =>
      rw [run_xfer_later tr x k ha]
      exact .of_stop (by rw [ha]; decide) rfl rfl

end

/-! ### `tmp` at acceptance (R15, R30) -/

theorem remember_setTmp (s : State) (v : Byte) (g : Got) : (s.setTmp v).remember g = (s.remember g).setTmp v := rfl
theorem record_setTmp (s : State) (v : Byte) (e : BusEvent) : (s.setTmp v).record e = (s.record e).setTmp v := rfl

theorem assign_setTmp (s : State) (v : Byte) (a : Assign) : (s.setTmp v).assign a = (s.assign a).setTmp v := by
  cases a <;> rfl

theorem raiseError_setTmp (s : State) (v : Byte) (tr : Bool) (e : Status) (info : Payload) :
    (s.setTmp v).raiseError tr e info = (s.raiseError tr e info).setTmp v := by
  unfold State.raiseError
  split <;> rfl

/-- Two runs that start with different bytes in `tmp` differ at most in `tmp`, and only if the script never writes it. -/
theorem run_setTmp (tr : Bool) (sc : Script) (past : List Got) (s : State) (v : Byte) :
    ∃ u, run tr sc past (s.setTmp v) = (run tr sc past s).setTmp u ∧
      (u = (run tr sc past s).tmp ∨ (u = v ∧ (run tr sc past s).tmp = s.tmp)) := by
  induction sc generalizing past s with
  | respond st p => exact ⟨v, rfl, .inr ⟨rfl, rfl⟩⟩
  | raise e p => exact ⟨v, raiseError_setTmp s v tr e p, .inr ⟨rfl, by simp⟩⟩
  | latch w k _ => exact ⟨_, rfl, .inl rfl⟩
  | assign a k ih => simpa [assign_setTmp] using ih past (s.assign a)
  | sample k ih =>
    match past with
    | .level l :: past => exact ih l past s
    | .byte b :: past => exact ⟨v, rfl, .inr ⟨rfl, rfl⟩⟩
    | [] =>
      rw [run_sample, run_sample]
      simpa [record_setTmp, remember_setTmp] using
        ih s.drawPin.1 [] ((s.drawPin.2.record (.pin s.drawPin.1)).remember (.level s.drawPin.1))
  | xfer x k ih =>
    match past with
    | .byte b :: past => exact ih b past s
    | .level l :: past => exact ⟨v, rfl, .inr ⟨rfl, rfl⟩⟩
    | [] =>
      have hdraw := drawBus_of_setTmp s v
      match ha : s.drawBus.1 with
      | .ok b =>
        rw [run_xfer_ok tr x k ha, run_xfer_ok tr x k (by rw [hdraw, ha]), hdraw]
        simpa [record_setTmp, remember_setTmp] using
          ih b [] ((s.drawBus.2.record (.txn x (okResult x b))).remember (.byte b))
      | .err =>
        rw [run_xfer_err tr x k ha, run_xfer_err tr x k (by rw [hdraw, ha]), hdraw]
        exact ⟨v, raiseError_setTmp (s.drawBus.2.record (.txn x .err)) v tr .busError 0, .inr ⟨rfl, by simp⟩⟩
      | .stall =>
        rw [run_xfer_stall tr x k ha, run_xfer_stall tr x k (by rw [hdraw, ha]), hdraw]
        exact ⟨v, rfl, .inr ⟨rfl, by simp⟩⟩
      | .later =>
        rw [run_xfer_later tr x k ha, run_xfer_later tr x k (by rw [hdraw, ha]), hdraw]
        exact ⟨v, rfl, .inr ⟨rfl, by simp⟩⟩

/-! ### The parameters after reset -/

theorem lowerBound_le_upperBound (a b : BitVec 12) : lowerBound a b ≤ upperBound a b := by
  unfold lowerBound upperBound
  split
  next h => exact h
  next h => exact BitVec.le_of_lt (BitVec.not_le.mp h)

theorem devAddr_mem (strap : Strap) : devAddr strap ∈ [0x2A, (0x2C : BitVec 7)] := by cases strap <;> decide

theorem abandonedTraffic_of_none {s : State} (h : s.inFlight = none) : abandonedTraffic s = [] := by
  simp [abandonedTraffic, h]

theorem abandonedTraffic_of_some {s : State} {f : InFlight} (h : s.inFlight = some f) :
    abandonedTraffic s = f.waiting.toList.map fun x => BusEvent.txn x .abandoned := by
  cases hw : f.waiting <;> simp [abandonedTraffic, h, hw]

end Sys2Proof.Machine

namespace Sys2Proof.Proofs
open Sys2Proof.Machine Sys2Proof.Claims

/-- Settles O6: the step of an idle block, presented a command or nothing. -/
theorem stepRunsTheCommandPresented : Obligations.StepRunsTheCommandPresented :=
  fun _ _ hidle hreset =>
    ⟨fun _ _ hh hdec => step_of_command hreset hidle hh hdec, fun hnothing => step_of_nothing hreset hidle hnothing⟩

/-- Settles O8: a run that is not answered ends where the transport has given no answer. -/
theorem commandWithoutResponseIsWaiting : Obligations.CommandWithoutResponseIsWaiting := by
  intro i s hidle
  cases hgate : (gateOf i).holds s with
  | false => exact ⟨_, exec_shut hidle hgate, .inl ⟨rfl, rfl, Status.wrongMode.code, 0, rfl⟩⟩
  | true =>
    refine ⟨_, exec_open hidle hgate, ?_⟩
    obtain ⟨hbusy, hresp, hcmd⟩ | ⟨hdone, hnone, st, p, hresp⟩ :=
      run_ends (isTransition i) (scriptOf s.cfg i) [] (s.accept i) rfl
    · exact .inr ⟨hbusy, hresp, hcmd, run_busy_drewNoAnswer hbusy⟩
    · exact .inl ⟨hdone, hnone, st.code, p, hresp⟩

/-- Settles O9: the port of a busy block is not looked at, and a run of the command in flight ends busy or answered. -/
theorem busyPortKeepsTheCommandPending : Obligations.BusyPortKeepsTheCommandPending := by
  intro s rest f hbusy hf hreset
  refine ⟨fun hport => ?goesOn, fun i hi => ?notAccepted⟩
  case goesOn =>
    have hstep := step_of_busy_port hreset hbusy hf hport
    have hrun := exec_eq f.cmd (inputsTaken s rest)
    rw [runCommand_goes_on (s := inputsTaken s rest) _ hbusy hf rfl] at hrun
    refine ⟨hstep, _, hstep.trans hrun, by simp [inputsTaken], ?_⟩
    obtain ⟨hb, hresp, hcmd⟩ | ⟨hidle, -, st, p, hresp⟩ := run_ends (isTransition f.cmd)
      (scriptOf (inputsTaken s rest).cfg f.cmd) f.got (inputsTaken s rest) hbusy
    · exact .inl ⟨hb, hresp, hcmd.trans (by simp [inputsTaken, hf])⟩
    · exact .inr ⟨hidle, _, hresp⟩
  case notAccepted => rw [exec_eq, runCommand_not_accepted _ hbusy hf hi.symm]

/-- Settles O12: the script of a command bounds its transactions, and only the data-ready gate samples. -/
theorem commandMakesAtMostSevenTransactions : Obligations.CommandMakesAtMostSevenTransactions := by
  intro i s hidle
  cases hgate : (gateOf i).holds s with
  | false => exact ⟨_, [], exec_shut hidle hgate, by simp, by decide, by decide⟩
  | true =>
    obtain ⟨es, htraffic, htxns, hpins, -⟩ :=
      run_counts (scriptOf_txnsAtMost s.cfg i) (scriptOf_reportsFaults s.cfg i) (isTransition i) (s.accept i)
    exact ⟨_, es, exec_open hidle hgate, htraffic, htxns, hpins⟩

/-- Settles O53: the reset is taken before the port is looked at. -/
theorem resetInputResetsTheBlock : Obligations.ResetInputResetsTheBlock := by
  intro s hreset
  exact ⟨Config.freeTmp s.draws, abandonedTraffic s, step_of_reset (by simpa using hreset), abandonedTraffic_of_none,
    fun _ => abandonedTraffic_of_some⟩

/-- Settles O54: a script gives its continuation the byte it has just latched, never one that `tmp` held before. -/
theorem tmpAtAcceptanceHasNoEffect : Obligations.TmpAtAcceptanceHasNoEffect := by
  intro i s v hidle
  change ∃ t u, exec i s = .next t ∧ exec i (s.setTmp v) = .next (t.setTmp u) ∧ _
  cases hgate : (gateOf i).holds s with
  | false => exact ⟨_, v, exec_shut hidle hgate, exec_shut (s := s.setTmp v) hidle hgate, .inr ⟨rfl, rfl⟩⟩
  | true =>
    obtain ⟨u, hrun, hu⟩ := run_setTmp (isTransition i) (scriptOf s.cfg i) [] (s.accept i) v
    refine ⟨_, u, exec_open hidle hgate, ?_, hu⟩
    rw [exec_open (s := s.setTmp v) hidle hgate, ← hrun]
    rfl

/-- Settles O49: the two examples, run through the decoders. -/
theorem sourceExamplesDecode : Obligations.SourceExamplesDecode := by
  refine ⟨?_, ?_, ?_, ?_⟩ <;> decide

/-- Settles O51: the fixed parameters are read off; the free ones are ordered bounds and a strap. -/
theorem resetParametersAreTheIntegratedBlocks : Obligations.ResetParametersAreTheIntegratedBlocks := by
  refine ⟨rfl, rfl, rfl, rfl, fun r => ?_, rfl, rfl, rfl, rfl, rfl, rfl, rfl, rfl, rfl, lowerBound_le_upperBound _ _,
    lowerBound_le_upperBound _ _, devAddr_mem _⟩
  cases r <;> decide

/-- Settles O52: each level is the bit of its register. -/
theorem levelOutputsShowTheRegisters : Obligations.LevelOutputsShowTheRegisters := by
  intro s
  refine ⟨fun h => ?_, fun h => ?_, fun h => ?_, fun h => ?_, fun h => ?_, fun h => ?_, fun h => ?_, fun h => ?_⟩ <;>
    simp [levels, posBit, feedBit, h]

end Sys2Proof.Proofs

/-! A command that waits (R7, R9, R50, log entry 5): what a replay does to the registers, where a run stops, and that it goes on
from there as if the transport had answered at once. -/

namespace Sys2Proof.Machine
open Sys2Proof.Claims

/-! ### What a replay writes -/

/-- The registers that a replay has written, each with the value written last. -/
structure Overlay where
  tmp : Option Byte := none
  tagPos : Option PosMode := none
  tagFeed : Option FeedMode := none
  synced : Option Bool := none

/-- The state with those registers written. -/
def Overlay.apply (o : Overlay) (s : State) : State :=
  { s with
    tmp := o.tmp.getD s.tmp, tagPos := o.tagPos.getD s.tagPos, tagFeed := o.tagFeed.getD s.tagFeed
    synced := o.synced.getD s.synced }

def Overlay.latch (o : Overlay) (v : Byte) : Overlay := { o with tmp := some v }

def Overlay.assign (o : Overlay) : Assign → Overlay
  | .pos p => { o with tagPos := some p }
  | .feed f => { o with tagFeed := some f }
  | .synced b => { o with synced := some b }

theorem apply_empty (s : State) : (({} : Overlay).apply s) = s := rfl

theorem apply_assign (o : Overlay) (a : Assign) (s : State) : (o.assign a).apply s = (o.apply s).assign a := by
  cases a <;> rfl

/-- `s` holds what the overlay writes. -/
structure Overlay.In (o : Overlay) (s : State) : Prop where
  tmp : o.tmp.getD s.tmp = s.tmp
  tagPos : o.tagPos.getD s.tagPos = s.tagPos
  tagFeed : o.tagFeed.getD s.tagFeed = s.tagFeed
  synced : o.synced.getD s.synced = s.synced

section
variable {o : Overlay} {s t : State}

theorem Overlay.In.apply_eq (h : o.In s) : o.apply s = s := by
  rw [Overlay.apply, h.tmp, h.tagPos, h.tagFeed, h.synced]

/-- Only the four registers are looked at. -/
theorem Overlay.In.congr (h : o.In s) (htmp : t.tmp = s.tmp) (hpos : t.tagPos = s.tagPos) (hfeed : t.tagFeed = s.tagFeed)
    (hsynced : t.synced = s.synced) : o.In t :=
  ⟨htmp ▸ h.tmp, hpos ▸ h.tagPos, hfeed ▸ h.tagFeed, hsynced ▸ h.synced⟩

theorem Overlay.In.latch (h : o.In s) (v : Byte) : (o.latch v).In (s.setTmp v) := ⟨rfl, h.tagPos, h.tagFeed, h.synced⟩

theorem Overlay.In.assign (h : o.In s) (a : Assign) : (o.assign a).In (s.assign a) := by
  cases a with
  | pos p => exact ⟨h.tmp, rfl, h.tagFeed, h.synced⟩
  | feed f => exact ⟨h.tmp, h.tagPos, rfl, h.synced⟩
  | synced b => exact ⟨h.tmp, h.tagPos, h.tagFeed, rfl⟩

end

/-! ### A replay -/

/-- The script taken through what a command was given, to the transaction it then stands at: the registers written on the way,
after those of `o`, the transaction, and how the script goes on from it. -/
def Script.replay : Script → List Got → Overlay → Option (Overlay × Txn × (Byte → Script))
  | .xfer x k, [], o => some (o, x, k)
  | .xfer _ k, .byte b :: past, o => (k b).replay past o
  | .sample k, .level l :: past, o => (k l).replay past o
  | .latch v k, past, o => (k v).replay past (o.latch v)
  | .assign a k, past, o => k.replay past (o.assign a)
  | .respond _ _, _, _ => none
  | .raise _ _, _, _ => none
  | .xfer _ _, .level _ :: _, _ => none
  | .sample _, [], _ => none
  | .sample _, .byte _ :: _, _ => none

theorem run_of_replay {sc : Script} {past : List Got} {o o' : Overlay} {x : Txn} {k : Byte → Script} (tr : Bool) (s : State)
    (h : sc.replay past o = some (o', x, k)) :
    run tr sc past (o.apply s) = run tr (.xfer x k) [] (o'.apply s) := by
  induction sc generalizing past o with
  | respond _ _ | raise _ _ => simp [Script.replay] at h
  | latch v k' ih => exact ih v h
  | assign a k' ih =>
    rw [run_assign, ← apply_assign]
    exact ih h
  | sample k' ih =>
    match past with
    | .level l :: past => exact ih l h
    | .byte b :: past => simp [Script.replay] at h
    | [] => simp [Script.replay] at h
  | xfer y k' ih =>
    match past with
    | .byte b :: past => exact ih b h
    | .level l :: past => simp [Script.replay] at h
    | [] =>
      simp only [Script.replay, Option.some.injEq, Prod.mk.injEq] at h
      obtain ⟨rfl, rfl, rfl⟩ := h
      rfl

/-! ### Where a run stops -/

/-- The block is busy with `i`, whose script, replayed, stands at the transaction `x` and goes on with `k`; all that the replay
writes is already there. -/
structure State.StandsAt (sc : Script) (i : Instr) (x : Txn) (k : Byte → Script) (s : State) : Prop where
  busy : s.busy = true
  replay : ∃ got w o, s.inFlight = some ⟨i, got, w⟩ ∧ sc.replay got {} = some (o, x, k) ∧ o.In s

section
variable {sc : Script} {i : Instr} {x : Txn} {k : Byte → Script} {s t : State}

theorem State.StandsAt.cmd (h : State.StandsAt sc i x k s) : s.inFlight.map (·.cmd) = some i := by
  obtain ⟨got, w, o, hf, -⟩ := h.replay
  rw [hf]
  rfl

/-- Going on with the command is to make its transaction. -/
theorem State.StandsAt.runCommand_eq (h : State.StandsAt sc i x k s) :
    runCommand i sc s = run (isTransition i) (.xfer x k) [] s := by
  obtain ⟨got, w, o, hf, hreplay, ho⟩ := h.replay
  rw [runCommand_goes_on sc h.busy hf rfl]
  have hrun := run_of_replay (isTransition i) s hreplay
  rwa [apply_empty, ho.apply_eq] at hrun

/-- Only the registers, `busy` and the command in flight are looked at, and not what is under way. -/
theorem State.StandsAt.congr (h : State.StandsAt sc i x k s) (hbusy : t.busy = s.busy)
    (hf : ∀ got w, s.inFlight = some ⟨i, got, w⟩ → ∃ w, t.inFlight = some ⟨i, got, w⟩) (htmp : t.tmp = s.tmp)
    (hpos : t.tagPos = s.tagPos) (hfeed : t.tagFeed = s.tagFeed) (hsynced : t.synced = s.synced) :
    State.StandsAt sc i x k t := by
  obtain ⟨got, w, o, hflight, hreplay, ho⟩ := h.replay
  obtain ⟨w', hflight'⟩ := hf got w hflight
  exact ⟨hbusy.trans h.busy, got, w', o, hflight', hreplay, ho.congr htmp hpos hfeed hsynced⟩

end

/-- The transport's script to come. -/
def State.withBusIn (s : State) (l : List BusAnswer) : State := { s with busIn := l }

/-- A run that has reached `s`, after the script `sc` of the command `i` was given `got` and wrote `o`, and has `rest` to
go. -/
structure State.Reaches (sc : Script) (i : Instr) (rest : Script) (got : List Got) (o : Overlay) (s : State) : Prop where
  busy : s.busy = true
  inFlight : ∃ w, s.inFlight = some ⟨i, got, w⟩
  replay : ∀ past, sc.replay (got ++ past) {} = rest.replay past o
  written : o.In s

/-- The run of `rest` from `s` stops at `u`, before the transaction `x`, to which the transport has no answer yet; and with
that answer taken out of the transport's script, `rest` comes to the same place. -/
structure StopsAt (sc : Script) (i : Instr) (tr : Bool) (rest : Script) (s u : State) (x : Txn) (k : Byte → Script) : Prop where
  stands : State.StandsAt sc i x k u
  unanswered : u.drawBus.1 ∈ noAnswer
  run_eq : run tr rest [] s = run tr (.xfer x k) [] u
  skip : ∀ pre a post, s.busIn = pre ++ a :: post → a ∈ noAnswer → (∀ b ∈ pre, b ∉ noAnswer) →
    u.busIn = a :: post ∧ run tr rest [] (s.withBusIn (pre ++ post)) = run tr (.xfer x k) [] (u.withBusIn post)

theorem drawPin_withBusIn (s : State) (l : List BusAnswer) :
    (s.withBusIn l).drawPin = (s.drawPin.1, s.drawPin.2.withBusIn l) := by
  unfold State.drawPin
  cases h : s.pinIn <;> simp [State.withBusIn, h]

theorem assign_withBusIn (s : State) (a : Assign) (l : List BusAnswer) :
    (s.withBusIn l).assign a = (s.assign a).withBusIn l := by cases a <;> rfl

section
variable {sc rest rest' : Script} {i : Instr} {tr : Bool} {s s' u : State} {got : List Got} {o : Overlay} {x : Txn}
  {k : Byte → Script}

/-- What a run was given, and the place it has then come to. -/
theorem State.Reaches.given (h : State.Reaches sc i rest got o s) (g : Got)
    (hreplay : ∀ past, rest.replay (g :: past) o = rest'.replay past o)
    (hs : s'.busy = s.busy ∧ s'.tmp = s.tmp ∧ s'.tagPos = s.tagPos ∧ s'.tagFeed = s.tagFeed ∧ s'.synced = s.synced)
    (hf : s'.inFlight = s.inFlight.map fun f => { f with got := f.got ++ [g], waiting := none }) :
    State.Reaches sc i rest' (got ++ [g]) o s' := by
  obtain ⟨w, hw⟩ := h.inFlight
  obtain ⟨hbusy, htmp, hpos, hfeed, hsynced⟩ := hs
  refine ⟨hbusy.trans h.busy, ⟨none, by rw [hf, hw]; rfl⟩, fun past => ?_, h.written.congr htmp hpos hfeed hsynced⟩
  rw [List.append_assoc]
  exact (h.replay (g :: past)).trans (hreplay past)

/-- A run stops where it stops after its next step. -/
theorem StopsAt.of_next (h : StopsAt sc i tr rest' s' u x k) (hrun : run tr rest [] s = run tr rest' [] s')
    (hskip : ∀ pre a post, s.busIn = pre ++ a :: post → a ∈ noAnswer → (∀ b ∈ pre, b ∉ noAnswer) →
      ∃ pre', s'.busIn = pre' ++ a :: post ∧ (∀ b ∈ pre', b ∉ noAnswer) ∧
        run tr rest [] (s.withBusIn (pre ++ post)) = run tr rest' [] (s'.withBusIn (pre' ++ post))) :
    StopsAt sc i tr rest s u x k := by
  refine ⟨h.stands, h.unanswered, hrun.trans h.run_eq, fun pre a post heq ha hpre => ?_⟩
  obtain ⟨pre', heq', hpre', hrun'⟩ := hskip pre a post heq ha hpre
  obtain ⟨hu, hskip'⟩ := h.skip pre' a post heq' ha hpre'
  exact ⟨hu, hrun'.trans hskip'⟩

/-- A run stands before a transaction that has no answer yet. -/
theorem StopsAt.here (h : State.Reaches sc i (.xfer x k) got o s) (ha : s.drawBus.1 ∈ noAnswer) :
    StopsAt sc i tr (.xfer x k) s s x k := by
  obtain ⟨w, hw⟩ := h.inFlight
  have hreplay := h.replay []
  rw [List.append_nil] at hreplay
  refine ⟨⟨h.busy, got, w, o, hw, hreplay, h.written⟩, ha, rfl, fun pre a post heq _ hpre => ?_⟩
  cases pre with
  | nil => exact ⟨heq, rfl⟩
  | cons b pre =>
    rw [drawBus_of_cons heq] at ha
    exact absurd ha (hpre b List.mem_cons_self)

/-- A transaction that is answered `Ok` is passed, with the answer at the head of the script or without a script. -/
theorem StopsAt.of_answer {b : Byte} (ha : s.drawBus.1 = .ok b)
    (h : StopsAt sc i tr (k b) ((s.drawBus.2.record (.txn x (okResult x b))).remember (.byte b)) u y k') :
    StopsAt sc i tr (.xfer x k) s u y k' := by
  refine h.of_next (run_xfer_ok tr x k ha) fun pre a post heq hno hpre => ?_
  cases pre with
  | nil =>
    obtain rfl : a = .ok b := (drawBus_of_script heq).symm.trans ha
    simp [noAnswer] at hno
  | cons c pre =>
    obtain rfl : c = .ok b := (drawBus_of_script heq).symm.trans ha
    refine ⟨pre, by simp [heq], fun b hb => hpre b (List.mem_cons_of_mem _ hb), ?_⟩
    have hrest : s.drawBus.2 = s.withBusIn (pre ++ a :: post) := by
      rw [drawBus_of_cons heq]
      rfl
    rw [hrest]
    exact run_xfer_ok tr x k (s := s.withBusIn (.ok b :: (pre ++ post))) rfl

/-- Every run that does not end stops at a transaction without an answer. -/
theorem run_stops (h : State.Reaches sc i rest got o s) :
    (run tr rest [] s).busy = false ∨ ∃ u x k, StopsAt sc i tr rest s u x k := by
  induction rest generalizing got o s with
  | respond st p => exact .inl rfl
  | raise e p => exact .inl (raiseError_busy s tr e p)
  | latch v k ih =>
    obtain hidle | ⟨u, x, k', hstop⟩ :=
      ih v (s := s.setTmp v) ⟨h.busy, h.inFlight, h.replay, h.written.latch v⟩
    · exact .inl hidle
    · exact .inr ⟨u, x, k', hstop.of_next rfl fun pre a post heq _ hpre => ⟨pre, heq, hpre, rfl⟩⟩
  | assign a k ih =>
    obtain hidle | ⟨u, x, k', hstop⟩ :=
      ih (s := s.assign a) ⟨by simpa using h.busy, by simpa using h.inFlight, h.replay, h.written.assign a⟩
    · exact .inl hidle
    · refine .inr ⟨u, x, k', hstop.of_next rfl fun pre b post heq _ hpre => ⟨pre, by simpa using heq, hpre, ?_⟩⟩
      rw [run_assign, assign_withBusIn]
  | sample k ih =>
    have hgiven : State.Reaches sc i (k s.drawPin.1) (got ++ [.level s.drawPin.1]) o
        ((s.drawPin.2.record (.pin s.drawPin.1)).remember (.level s.drawPin.1)) :=
      h.given (.level s.drawPin.1) (fun _ => rfl) (by simp) (by simp)
    obtain hidle | ⟨u, x, k', hstop⟩ := ih s.drawPin.1 hgiven
    · exact .inl (by rwa [run_sample])
    · refine .inr ⟨u, x, k', hstop.of_next (run_sample tr k s) fun pre a post heq _ hpre => ⟨pre, by simpa using heq, hpre, ?_⟩⟩
      rw [run_sample, drawPin_withBusIn]
      rfl
  | xfer x k ih =>
    match ha : s.drawBus.1 with
    | .ok b =>
      have hgiven : State.Reaches sc i (k b) (got ++ [.byte b]) o
          ((s.drawBus.2.record (.txn x (okResult x b))).remember (.byte b)) :=
        h.given (.byte b) (fun _ => rfl) (by simp) (by simp)
      obtain hidle | ⟨u, y, k', hstop⟩ := ih b hgiven
      · exact .inl (by rwa [run_xfer_ok tr x k ha])
      · exact .inr ⟨u, y, k', hstop.of_answer ha⟩
    | .err => exact .inl (by simp [run_xfer_err tr x k ha])
    | .stall => exact .inr ⟨s, x, k, .here h (by rw [ha]; decide)⟩
    | .later => exact .inr ⟨s, x, k, .here h (by rw [ha]; decide)⟩

end

/-! ### Going on -/

section
variable {sc : Script} {i : Instr} {tr : Bool} {s : State} {x : Txn} {k : Byte → Script}

/-- A transaction without an answer yet is noted as under way, or it is not; nothing else is done. -/
theorem run_xfer_noAnswer (ha : s.drawBus.1 ∈ noAnswer) :
    run tr (.xfer x k) [] s = s.drawBus.2.waitFor x ∨ run tr (.xfer x k) [] s = s.drawBus.2 := by
  obtain ha | ha : s.drawBus.1 = .stall ∨ s.drawBus.1 = .later := by simpa [noAnswer] using ha
  · exact .inl (run_xfer_stall tr x k ha)
  · exact .inr (run_xfer_later tr x k ha)

/-- A command that stands at a transaction without an answer stands there after its step. -/
theorem State.StandsAt.step_noAnswer (h : State.StandsAt sc i x k s) (ha : s.drawBus.1 ∈ noAnswer) :
    State.StandsAt sc i x k (run tr (.xfer x k) [] s) ∧ (run tr (.xfer x k) [] s).responses = s.responses ∧
      (run tr (.xfer x k) [] s).traffic = s.traffic ∧ (run tr (.xfer x k) [] s).busIn = s.busIn.tail := by
  obtain hrun | hrun := run_xfer_noAnswer (tr := tr) (x := x) (k := k) ha <;> rw [hrun]
  · exact ⟨h.congr (by simp) (fun got w hw => ⟨some x, by simp [hw]⟩) (by simp) (by simp) (by simp) (by simp), by simp,
      by simp, by simp⟩
  · exact ⟨h.congr (by simp) (fun got w hw => ⟨w, by simp [hw]⟩) (by simp) (by simp) (by simp) (by simp), by simp,
      by simp, by simp⟩

/-- Whether the transaction was noted as under way does not matter once it is answered. -/
theorem run_xfer_waitFor (hbusy : s.busy = true) :
    setAside (run tr (.xfer x k) [] (s.waitFor x)) = setAside (run tr (.xfer x k) [] s) ∧
    ((run tr (.xfer x k) [] s).busy = false → run tr (.xfer x k) [] (s.waitFor x) = run tr (.xfer x k) [] s) := by
  have hdraw := drawBus_of_waitFor s x
  match ha : s.drawBus.1 with
  | .ok b =>
    have hsame : ((s.drawBus.2.waitFor x).record (.txn x (okResult x b))).remember (.byte b) =
        (s.drawBus.2.record (.txn x (okResult x b))).remember (.byte b) := by
      simp [State.waitFor, State.record, State.remember, Function.comp_def]
    rw [run_xfer_ok tr x k ha, run_xfer_ok tr x k (by rw [hdraw, ha]), hdraw, hsame]
    exact ⟨rfl, fun _ => rfl⟩
  | .err =>
    have hsame : ((s.drawBus.2.waitFor x).record (.txn x .err)).raiseError tr .busError 0 =
        (s.drawBus.2.record (.txn x .err)).raiseError tr .busError 0 := by
      unfold State.raiseError
      split <;> rfl
    rw [run_xfer_err tr x k ha, run_xfer_err tr x k (by rw [hdraw, ha]), hdraw, hsame]
    exact ⟨rfl, fun _ => rfl⟩
  | .stall =>
    have hsame : (s.drawBus.2.waitFor x).waitFor x = s.drawBus.2.waitFor x := by
      simp [State.waitFor, Function.comp_def]
    rw [run_xfer_stall tr x k ha, run_xfer_stall tr x k (by rw [hdraw, ha]), hdraw, hsame]
    exact ⟨rfl, fun _ => rfl⟩
  | .later =>
    rw [run_xfer_later tr x k ha, run_xfer_later tr x k (by rw [hdraw, ha]), hdraw]
    refine ⟨by simp [setAside, State.waitFor, Function.comp_def], fun hidle => ?_⟩
    simp [hbusy] at hidle

end

/-- Where an idle block is left busy by a command, its run has stopped. -/
theorem exec_stops {i : Instr} {s t : State} (hidle : s.busy = false) (hexec : exec i s = .next t) (hbusy : t.busy = true) :
    ∃ u x k, (gateOf i).holds s = true ∧ StopsAt (scriptOf s.cfg i) i (isTransition i) (scriptOf s.cfg i) (s.accept i) u x k ∧
      t = run (isTransition i) (.xfer x k) [] u := by
  cases hgate : (gateOf i).holds s with
  | false =>
    rw [exec_shut hidle hgate, Host.Outcome.next.injEq] at hexec
    subst hexec
    cases hbusy
  | true =>
    rw [exec_open hidle hgate, Host.Outcome.next.injEq] at hexec
    subst hexec
    have hstart : State.Reaches (scriptOf s.cfg i) i (scriptOf s.cfg i) [] {} (s.accept i) :=
      ⟨rfl, ⟨none, rfl⟩, fun _ => rfl, ⟨rfl, rfl, rfl, rfl⟩⟩
    obtain hdone | ⟨u, x, k, hstop⟩ := run_stops (tr := isTransition i) hstart
    · simp [hdone] at hbusy
    · exact ⟨u, x, k, rfl, hstop, hstop.run_eq⟩

/-- One step without an answer and without a reset leaves a command where it stands. -/
theorem step_of_standsAt {i : Instr} {x : Txn} {k : Byte → Script} {s : State}
    (h : State.StandsAt (scriptOf s.cfg i) i x k s) (ha : s.drawBus.1 ∈ noAnswer) (hreset : notReset s) :
    ∃ t, step s = .next t ∧ State.StandsAt (scriptOf t.cfg i) i x k t ∧ t.responses = s.responses ∧
      t.traffic = s.traffic ∧ t.busIn = s.busIn.tail ∧ t.resetIn = s.resetIn.tail := by
  obtain ⟨got, w, o, hf, -⟩ := h.replay
  obtain ⟨rest, hstep⟩ := step_of_busy hreset h.busy hf
  have hin : State.StandsAt (scriptOf s.cfg i) i x k ((s.withResetIn s.resetIn.tail).withHostIn rest) :=
    h.congr rfl (fun got w hw => ⟨w, hw⟩) rfl rfl rfl rfl
  obtain ⟨hstands, hresp, htraffic, hbus⟩ := hin.step_noAnswer (tr := isTransition i) (by simpa using ha)
  refine ⟨_, hstep.trans (exec_eq i _), ?_⟩
  simp only [withHostIn_cfg, withResetIn_cfg, hin.runCommand_eq, run_cfg, run_resetIn]
  exact ⟨hstands, hresp, htraffic, hbus, rfl⟩

theorem core_run_of_step {M : Host.Core} {s t : M.State} (hstep : M.step s = .next t) (n : Nat) :
    M.run (n + 1) s = M.run n t := by
  simp [Host.Core.run, hstep]

theorem run_of_standsAt {i : Instr} {x : Txn} {k : Byte → Script} {waits rest : List BusAnswer} {s : State}
    (h : State.StandsAt (scriptOf s.cfg i) i x k s) (hbus : s.busIn = waits ++ rest) (hwaits : ∀ a ∈ waits, a ∈ noAnswer)
    (hreset : ∀ r ∈ s.resetIn.take waits.length, r = false) :
    ∃ t, core.run waits.length s = .next t ∧ State.StandsAt (scriptOf t.cfg i) i x k t ∧ t.responses = s.responses ∧
      t.traffic = s.traffic := by
  induction waits generalizing s with
  | nil => exact ⟨s, rfl, h, rfl, rfl⟩
  | cons a waits ih =>
    have ha : s.drawBus.1 ∈ noAnswer := by
      rw [drawBus_of_script hbus]
      exact hwaits a List.mem_cons_self
    have hnow : notReset s ∧ ∀ r ∈ s.resetIn.tail.take waits.length, r = false := by
      cases hin : s.resetIn with
      | nil => simp [notReset, State.resetPulsed, hin]
      | cons r rs => simpa [notReset, State.resetPulsed, hin] using hreset
    obtain ⟨t, hstep, hstands, hresp, htraffic, hbusIn, hresetIn⟩ := step_of_standsAt h ha hnow.1
    obtain ⟨t', hrun, hstands', hresp', htraffic'⟩ := ih hstands (by rw [hbusIn, hbus]; rfl)
      (fun b hb => hwaits b (List.mem_cons_of_mem _ hb)) (by rw [hresetIn]; exact hnow.2)
    exact ⟨t', (core_run_of_step (M := core) hstep _).trans hrun, hstands', hresp'.trans hresp, htraffic'.trans htraffic⟩

end Sys2Proof.Machine

namespace Sys2Proof.Proofs
open Sys2Proof.Machine Sys2Proof.Claims

/-- Settles O10: the command stands at a transaction, and a step without an answer leaves it there. -/
theorem transactionThatNeverReturnsIsAHang : Obligations.TransactionThatNeverReturnsIsAHang := by
  intro i s t0 waits rest hidle hexec hbusy hbus hwaits hreset
  obtain ⟨u, x, k, -, hstop, rfl⟩ := exec_stops hidle hexec hbusy
  have hcfg : (run (isTransition i) (.xfer x k) [] u).cfg = s.cfg := by
    rw [← hstop.run_eq, run_cfg, accept_cfg]
  have hresp0 : (run (isTransition i) (.xfer x k) [] u).responses = s.responses := by
    obtain ⟨-, hresp, -⟩ | ⟨hdone, -⟩ := run_ends (isTransition i) (scriptOf s.cfg i) [] (s.accept i) rfl
    · rw [← hstop.run_eq, hresp, accept_responses]
    · rw [hstop.run_eq, hbusy] at hdone
      cases hdone
  have hstands := (hstop.stands.step_noAnswer (tr := isTransition i) hstop.unanswered).1
  rw [← hcfg] at hstands
  obtain ⟨t, hrun, hstands', hresp, htraffic⟩ := run_of_standsAt hstands hbus hwaits hreset
  exact ⟨t, hrun, hstands'.busy, hstands'.cmd, hresp.trans hresp0, htraffic⟩

/-- Settles O11: going on replays what was given, which writes what is already there, and makes the transaction that stood
open. -/
theorem waitingForTheTransportChangesNothingElse : Obligations.WaitingForTheTransportChangesNothingElse := by
  intro i s t pre post a hidle hbus ha hpre hexec hbusy
  obtain ⟨u, x, k, hgate, hstop, rfl⟩ := exec_stops hidle hexec hbusy
  obtain ⟨hu, hskip⟩ := hstop.skip pre a post hbus ha hpre
  have hstands := (hstop.stands.step_noAnswer (tr := isTransition i) hstop.unanswered).1
  have hcfg : (run (isTransition i) (.xfer x k) [] u).cfg = s.cfg := by
    rw [← hstop.run_eq, run_cfg, accept_cfg]
  refine ⟨_, _, exec_eq i _, exec_open (s := { s with busIn := pre ++ post }) hidle hgate, ?_⟩
  rw [hcfg, hstands.runCommand_eq]
  have hv : run (isTransition i) (scriptOf s.cfg i) [] (State.accept { s with busIn := pre ++ post } i) =
      run (isTransition i) (.xfer x k) [] (u.withBusIn post) := hskip
  have hrest : u.drawBus.2 = u.withBusIn post := by
    rw [drawBus_of_cons hu]
    rfl
  rw [hv]
  obtain hrun | hrun := run_xfer_noAnswer (tr := isTransition i) (x := x) (k := k) hstop.unanswered <;> rw [hrun, hrest]
  · exact run_xfer_waitFor hstop.stands.busy
  · exact ⟨rfl, fun _ => rfl⟩

end Sys2Proof.Proofs
